-- ==== Sys2Proof/Word.lean ====
section
/-! DEFINITION. Word: the few bit-vector types the spec itself treats as bits. Every other value of the machine is a
Bool, an enumeration or a natural number. -/

namespace Sys2Proof

/-- A dispatch key (30_encoding.md R57 to R64), in the width of the widest format, F_DB and F_TRG's five bits. A
narrower format's key stands in the low bits and the bits above it are 0. -/
abbrev Key := BitVec 5

/-- A program's per-tick input word (30_encoding.md R70): bit 1 is `buttonIn`, bit 0 is `triggerIn`. -/
abbrev InputWord := BitVec 2

/-- A one-bit field of a key. -/
abbrev bit (b : Bool) : BitVec 1 := BitVec.ofBool b

end Sys2Proof
end

