-- ==== Sys2Proof/Config.lean ====
section
/-! DEFINITION. Config: the one parameter of the block and the values the source fixes (00_scope.md R6 to R8), what
follows from them, and the one free value, the inputs past the end of a program. -/

namespace Sys2Proof

/-- `BAUD` (00_scope.md R7). -/
def Config.baud : Nat := 115200

/-- `PAYLOAD` (00_scope.md R7, 20_memory.md R45). -/
def Config.payload : BitVec 16 := 0x4101

/-- `PAYLOAD_BITS` (00_scope.md R7). -/
def Config.payloadBits : Nat := 16

/-- `BIT_COUNT_MAX` (00_scope.md R7). -/
def Config.bitCountMax : BitVec 5 := 16

/-- `DB_WINDOW` (00_scope.md R7): ticks between debounce samples. -/
def Config.dbWindow : Nat := 128

/-- `TRG_SAT` (00_scope.md R7): the saturation value of the trigger counter. -/
def Config.trgSat : BitVec 4 := 15

/-- `TRG_LO` (00_scope.md R7): the narrowest accepted trigger pulse, in ticks. -/
def Config.trgLo : BitVec 4 := 11

/-- `TRG_HI` (00_scope.md R7): the widest accepted trigger pulse, in ticks. -/
def Config.trgHi : BitVec 4 := 13

/-- The reference `CLK_HZ` (00_scope.md R6 and R8, 92_eei_decisions.md P-CLK). -/
def Config.referenceClkHz : Nat := 12000000

/-- `N`, the half-bit period in ticks: floor(CLK_HZ / 115200 / 2) (00_scope.md R7, 40_timebase.md R71). -/
def Config.halfBit (clkHz : Nat) : Nat := clkHz / Config.baud / 2

/-- A configuration is legal only when `N >= 2` (00_scope.md R8). -/
abbrev Config.Legal (clkHz : Nat) : Prop := 2 ≤ Config.halfBit clkHz

/-- The width of `tbCount`, ceil(log2 N) and at least 1 (10_state.md R16, 92_eei_decisions.md D3). -/
def Config.tbCountBits (clkHz : Nat) : Nat := max 1 (Nat.log2 (Config.halfBit clkHz - 1) + 1)

/-- Ticks of one symbol, `2N` (41_manchester_encoder.md R91, 70_reset_and_hazards.md R193). -/
def Config.symbolTicks (clkHz : Nat) : Nat := 2 * Config.halfBit clkHz

/-- Ticks of one frame, `36N` (44_controller.md R147). -/
def Config.frameTicks (clkHz : Nat) : Nat := 18 * Config.symbolTicks clkHz

/-- Ticks from one continuous frame to the next, `38N` (44_controller.md R147, 90_conflicts.md C1). -/
def Config.framePeriod (clkHz : Nat) : Nat := 19 * Config.symbolTicks clkHz

/-- The wall-clock time of a number of ticks, in seconds: one tick lasts `1 / CLK_HZ` (70_reset_and_hazards.md R194). -/
def Config.seconds (clkHz ticks : Nat) : Rat := (ticks : Rat) / (clkHz : Rat)

/-- The line rate in symbols per second, `CLK_HZ / 2N` (40_timebase.md R78). -/
def Config.symbolRate (clkHz : Nat) : Rat := (clkHz : Rat) / (Config.symbolTicks clkHz : Rat)

/-- DESIGN CHOICE (log 3), safe: the input word of tick `t` once the loaded program has ended. The spec leaves the inputs of
every tick to the host (60_exceptions.md R171), so nothing constrains this value. -/
opaque Config.freeInput : Nat → InputWord

end Sys2Proof
end

