-- ==== Sys2Proof/Syntax.lean ====
section
/-! DEFINITION. Syntax: the operations of spec/opcode_table.json, their formats, the enumerations of 30_encoding.md R56
and the program notation of 30_encoding.md R70. -/

namespace Sys2Proof

/-- EncoderState (30_encoding.md R56, 10_state.md R21). Its three reserved codes have no constructor (R67). -/
inductive EncState where
  | idle | waitStart | startBit | bitEncode | stopBit
deriving DecidableEq, Repr

/-- ControllerState (30_encoding.md R56, 10_state.md R28). -/
inductive CtlState where
  | idle | start | transmit | stop
deriving DecidableEq, Repr

/-- Mode (30_encoding.md R56, 10_state.md R30): a transmission mode, no privilege (60_exceptions.md R169). -/
inductive Mode where
  | triggered | continuous
deriving DecidableEq, Repr

/-- The eight dispatch-key formats F_TB, F_ENC, F_DB, F_TRG, F_CTL, F_EN, F_ST, F_MODE (30_encoding.md R57 to R64). -/
inductive Format where
  | tb | enc | db | trg | ctl | en | st | mode
deriving DecidableEq, Repr

/-- The operations of the block, one constructor per row of spec/opcode_table.json in its order (00_scope.md R5,
30_encoding.md R66). No row has an operand field: operands are registers and inputs. -/
inductive Instr where
  /-- TB.COUNT, format F_TB, rule R72. -/
  | tbCount
  /-- TB.HALF, format F_TB, rule R73. -/
  | tbHalf
  /-- TB.CYCLE, format F_TB, rule R74. -/
  | tbCycle
  /-- ENC.FROZEN, format F_ENC, rule R83. -/
  | encFrozen
  /-- ENC.IDLE, format F_ENC, rule R85. -/
  | encIdle
  /-- ENC.WAIT_START, format F_ENC, rule R86. -/
  | encWaitStart
  /-- ENC.START_BIT, format F_ENC, rule R87. -/
  | encStartBit
  /-- ENC.BIT_ENCODE, format F_ENC, rule R88. -/
  | encBitEncode
  /-- ENC.STOP_BIT, format F_ENC, rule R89. -/
  | encStopBit
  /-- DB.WAIT, format F_DB, rule R101. -/
  | dbWait
  /-- DB.R0xx0, format F_DB, rule R103. -/
  | dbR0xx0
  /-- DB.R0001, format F_DB, rule R104. -/
  | dbR0001
  /-- DB.R0011, format F_DB, rule R105. -/
  | dbR0011
  /-- DB.R0101, format F_DB, rule R106. -/
  | dbR0101
  /-- DB.R0111, format F_DB, rule R107. -/
  | dbR0111
  /-- DB.R1xx1, format F_DB, rule R108. -/
  | dbR1xx1
  /-- DB.R1110, format F_DB, rule R109. -/
  | dbR1110
  /-- DB.R1100, format F_DB, rule R110. -/
  | dbR1100
  /-- DB.R1010, format F_DB, rule R111. -/
  | dbR1010
  /-- DB.R1000, format F_DB, rule R112. -/
  | dbR1000
  /-- TRG.HIGH, format F_TRG, rule R120. -/
  | trgHigh
  /-- TRG.LOW, format F_TRG, rule R121. -/
  | trgLow
  /-- CTL.IDLE, format F_CTL, rule R131. -/
  | ctlIdle
  /-- CTL.START, format F_CTL, rule R132. -/
  | ctlStart
  /-- CTL.TRANSMIT, format F_CTL, rule R133. -/
  | ctlTransmit
  /-- CTL.STOP, format F_CTL, rule R134. -/
  | ctlStop
  /-- EN.SET, format F_EN, rule R136. -/
  | enSet
  /-- EN.CLEAR, format F_EN, rule R137. -/
  | enClear
  /-- EN.HOLD, format F_EN, rule R138. -/
  | enHold
  /-- ST.SET, format F_ST, rule R139. -/
  | stSet
  /-- ST.CLEAR, format F_ST, rule R140. -/
  | stClear
  /-- ST.HOLD, format F_ST, rule R141. -/
  | stHold
  /-- MODE.HOLD, format F_MODE, rule R142. -/
  | modeHold
  /-- MODE.T2C, format F_MODE, rule R143. -/
  | modeT2C
  /-- MODE.C2T, format F_MODE, rule R144. -/
  | modeC2T
  /-- MODE.DEFER, format F_MODE, rule R145. -/
  | modeDefer
deriving DecidableEq, Repr

/-- One line of a program's text, `<count> B=<button> T=<trigger>`, before it is checked (30_encoding.md R70). -/
structure ProgramLine where
  count : Nat
  button : Nat
  trigger : Nat
deriving DecidableEq, Repr

/-- One run of an encoded program, `count x w`, before it is checked (30_encoding.md R70). -/
structure EncodedRun where
  count : Nat
  word : Nat
deriving DecidableEq, Repr

/-- One run of the host's input schedule as the machine holds it: the next `count` ticks have the input word `word`. -/
structure InputRun where
  count : Nat
  word : InputWord
deriving DecidableEq, Repr

/-- The block's three output ports on one tick (10_state.md R18, 44_controller.md R146). -/
structure Outputs where
  swoOut : Bool
  ledRun : Bool
  ledMode : Bool
deriving DecidableEq, Repr

end Sys2Proof
end

