-- ==== Sys2Proof/WellFormed.lean ====
section
/-! DEFINITION. WellFormed: which keys, program lines and encoded runs are legal. An operation of Instr has no operand
field, so every term of Instr is well formed; what can be ill formed is the key that names it and the program around it. -/

namespace Sys2Proof

/-- The width of a format's key in bits (30_encoding.md R57 to R64). -/
def Format.width : Format → Nat
  | .tb => 2 | .enc => 4 | .db => 5 | .trg => 5 | .ctl => 2 | .en => 2 | .st => 2 | .mode => 3

/-- The key has no bit set above its format's width. -/
def Key.fits (f : Format) (k : Key) : Bool := k.toNat < 2 ^ f.width

/-- The reserved keys: F_ENC keys whose low three bits are one of the codes 0b101, 0b110, 0b111, whatever `encEn` is
(30_encoding.md R58 and R67). No other format has one. -/
def Key.reserved (f : Format) (k : Key) : Bool :=
  match f with
  | .enc => 4 < (k.extractLsb' 0 3).toNat
  | .tb | .db | .trg | .ctl | .en | .st | .mode => false

/-- A key a decoder accepts: it fits its format and is not reserved (30_encoding.md R66 and R67). -/
def Key.wf (f : Format) (k : Key) : Bool := k.fits f && !k.reserved f

/-- Which values the bits an operation's row leaves open may take (30_encoding.md R66): any, but for ENC.FROZEN, whose open
bits are an `encState` code and must not be a reserved one (R67). -/
def Instr.admits (i : Instr) (free : Key) : Bool :=
  match i with
  | .encFrozen => (free.extractLsb' 0 3).toNat ≤ 4
  | .tbCount | .tbHalf | .tbCycle | .encIdle | .encWaitStart | .encStartBit | .encBitEncode | .encStopBit | .dbWait
  | .dbR0xx0 | .dbR0001 | .dbR0011 | .dbR0101 | .dbR0111 | .dbR1xx1 | .dbR1110 | .dbR1100 | .dbR1010
  | .dbR1000 | .trgHigh | .trgLow | .ctlIdle | .ctlStart | .ctlTransmit | .ctlStop | .enSet | .enClear
  | .enHold | .stSet | .stClear | .stHold | .modeHold | .modeT2C | .modeC2T | .modeDefer => true

/-- A program line is legal when its count is at least 1 and each input is 0 or 1 (60_exceptions.md R177). -/
def ProgramLine.wf (l : ProgramLine) : Bool := 1 ≤ l.count && l.button ≤ 1 && l.trigger ≤ 1

/-- An encoded run is legal when its count is at least 1 and its word is 0 to 3 (60_exceptions.md R177). -/
def EncodedRun.wf (r : EncodedRun) : Bool := 1 ≤ r.count && r.word ≤ 3

/-- A run the machine holds has at least one tick left (60_exceptions.md R177); its word is two bits by its type. -/
def InputRun.wf (r : InputRun) : Bool := 1 ≤ r.count

end Sys2Proof
end

