-- ==== Sys2Proof/Decode.lean ====
section
/-! DEFINITION. Decode: the encodings of 30_encoding.md. The codes of the enumerations (R56), the table of match and mask
(R66), the decoder that refuses reserved keys by name and then picks the row with `(key & mask) == match`, the encoder, and
the reading of a bare table word that the host asks for. -/

namespace Sys2Proof

/-- The code of an EncoderState (30_encoding.md R56). -/
def EncState.code : EncState → BitVec 3
  | .idle => 0b000 | .waitStart => 0b001 | .startBit => 0b010 | .bitEncode => 0b011 | .stopBit => 0b100

/-- The EncoderState of a code, none for the reserved codes 0b101, 0b110, 0b111 (30_encoding.md R56, R67). -/
def EncState.ofCode (c : BitVec 3) : Option EncState :=
  if c = 0b000 then some .idle
  else if c = 0b001 then some .waitStart
  else if c = 0b010 then some .startBit
  else if c = 0b011 then some .bitEncode
  else if c = 0b100 then some .stopBit
  else none

/-- The code of a ControllerState (30_encoding.md R56). -/
def CtlState.code : CtlState → BitVec 2
  | .idle => 0b00 | .start => 0b01 | .transmit => 0b10 | .stop => 0b11

/-- The ControllerState of a code (30_encoding.md R56): every code has one. -/
def CtlState.ofCode (c : BitVec 2) : CtlState :=
  if c = 0b00 then .idle else if c = 0b01 then .start else if c = 0b10 then .transmit else .stop

/-- The code of a Mode (30_encoding.md R56). -/
def Mode.code : Mode → Bool
  | .triggered => false | .continuous => true

/-- The Mode of a code (30_encoding.md R56). -/
def Mode.ofCode (c : Bool) : Mode := if c then .continuous else .triggered

/-- The format of each operation (30_encoding.md R66). -/
def Instr.format : Instr → Format
  | .tbCount | .tbHalf | .tbCycle => .tb
  | .encFrozen | .encIdle | .encWaitStart | .encStartBit | .encBitEncode | .encStopBit => .enc
  | .dbWait | .dbR0xx0 | .dbR0001 | .dbR0011 | .dbR0101 | .dbR0111 | .dbR1xx1 | .dbR1110 | .dbR1100 | .dbR1010 | .dbR1000 => .db
  | .trgHigh | .trgLow => .trg
  | .ctlIdle | .ctlStart | .ctlTransmit | .ctlStop => .ctl
  | .enSet | .enClear | .enHold => .en
  | .stSet | .stClear | .stHold => .st
  | .modeHold | .modeT2C | .modeC2T | .modeDefer => .mode

/-- A row's match and mask (30_encoding.md R66), zero-extended to the width of Key. -/
structure KeyPattern where
  pat : Key
  mask : Key
deriving DecidableEq, Repr

/-- The match and mask of each operation, as the table of 30_encoding.md R66 gives them. -/
def Instr.pattern : Instr → KeyPattern
  | .tbCount => ⟨0b00000, 0b00010⟩
  | .tbHalf => ⟨0b00011, 0b00011⟩
  | .tbCycle => ⟨0b00010, 0b00011⟩
  | .encFrozen => ⟨0b00000, 0b01000⟩
  | .encIdle => ⟨0b01000, 0b01111⟩
  | .encWaitStart => ⟨0b01001, 0b01111⟩
  | .encStartBit => ⟨0b01010, 0b01111⟩
  | .encBitEncode => ⟨0b01011, 0b01111⟩
  | .encStopBit => ⟨0b01100, 0b01111⟩
  | .dbWait => ⟨0b00000, 0b10000⟩
  | .dbR0xx0 => ⟨0b10000, 0b11001⟩
  | .dbR0001 => ⟨0b10001, 0b11111⟩
  | .dbR0011 => ⟨0b10011, 0b11111⟩
  | .dbR0101 => ⟨0b10101, 0b11111⟩
  | .dbR0111 => ⟨0b10111, 0b11111⟩
  | .dbR1xx1 => ⟨0b11001, 0b11001⟩
  | .dbR1110 => ⟨0b11110, 0b11111⟩
  | .dbR1100 => ⟨0b11100, 0b11111⟩
  | .dbR1010 => ⟨0b11010, 0b11111⟩
  | .dbR1000 => ⟨0b11000, 0b11111⟩
  | .trgHigh => ⟨0b10000, 0b10000⟩
  | .trgLow => ⟨0b00000, 0b10000⟩
  | .ctlIdle => ⟨0b00000, 0b00011⟩
  | .ctlStart => ⟨0b00001, 0b00011⟩
  | .ctlTransmit => ⟨0b00010, 0b00011⟩
  | .ctlStop => ⟨0b00011, 0b00011⟩
  | .enSet => ⟨0b00010, 0b00010⟩
  | .enClear => ⟨0b00001, 0b00011⟩
  | .enHold => ⟨0b00000, 0b00011⟩
  | .stSet => ⟨0b00010, 0b00010⟩
  | .stClear => ⟨0b00001, 0b00011⟩
  | .stHold => ⟨0b00000, 0b00011⟩
  | .modeHold => ⟨0b00000, 0b00010⟩
  | .modeT2C => ⟨0b00010, 0b00110⟩
  | .modeC2T => ⟨0b00111, 0b00111⟩
  | .modeDefer => ⟨0b00110, 0b00111⟩

/-- The mnemonic of each operation, as the table of 30_encoding.md R66 spells it. -/
def Instr.mnemonic : Instr → String
  | .tbCount => "TB.COUNT"
  | .tbHalf => "TB.HALF"
  | .tbCycle => "TB.CYCLE"
  | .encFrozen => "ENC.FROZEN"
  | .encIdle => "ENC.IDLE"
  | .encWaitStart => "ENC.WAIT_START"
  | .encStartBit => "ENC.START_BIT"
  | .encBitEncode => "ENC.BIT_ENCODE"
  | .encStopBit => "ENC.STOP_BIT"
  | .dbWait => "DB.WAIT"
  | .dbR0xx0 => "DB.R0xx0"
  | .dbR0001 => "DB.R0001"
  | .dbR0011 => "DB.R0011"
  | .dbR0101 => "DB.R0101"
  | .dbR0111 => "DB.R0111"
  | .dbR1xx1 => "DB.R1xx1"
  | .dbR1110 => "DB.R1110"
  | .dbR1100 => "DB.R1100"
  | .dbR1010 => "DB.R1010"
  | .dbR1000 => "DB.R1000"
  | .trgHigh => "TRG.HIGH"
  | .trgLow => "TRG.LOW"
  | .ctlIdle => "CTL.IDLE"
  | .ctlStart => "CTL.START"
  | .ctlTransmit => "CTL.TRANSMIT"
  | .ctlStop => "CTL.STOP"
  | .enSet => "EN.SET"
  | .enClear => "EN.CLEAR"
  | .enHold => "EN.HOLD"
  | .stSet => "ST.SET"
  | .stClear => "ST.CLEAR"
  | .stHold => "ST.HOLD"
  | .modeHold => "MODE.HOLD"
  | .modeT2C => "MODE.T2C"
  | .modeC2T => "MODE.C2T"
  | .modeDefer => "MODE.DEFER"

/-- Every operation, in the order of the table (30_encoding.md R66). -/
def Instr.table : List Instr :=
  [.tbCount, .tbHalf, .tbCycle,
   .encFrozen, .encIdle, .encWaitStart, .encStartBit, .encBitEncode, .encStopBit,
   .dbWait, .dbR0xx0, .dbR0001, .dbR0011, .dbR0101, .dbR0111, .dbR1xx1, .dbR1110, .dbR1100, .dbR1010, .dbR1000,
   .trgHigh, .trgLow,
   .ctlIdle, .ctlStart, .ctlTransmit, .ctlStop,
   .enSet, .enClear, .enHold,
   .stSet, .stClear, .stHold,
   .modeHold, .modeT2C, .modeC2T, .modeDefer]

/-- The row's own test: `(key & mask) == match` (30_encoding.md R66). -/
def Instr.matchesKey (i : Instr) (k : Key) : Bool := k &&& i.pattern.mask == i.pattern.pat

/-- Why a key names no operation. -/
inductive DecodeError where
  /-- The key has a bit above its format's width: no key of the format. -/
  | keyTooWide
  /-- A reserved key of 30_encoding.md R67, refused before it is decoded (R66). -/
  | reservedKey
  /-- No row of the format matches. R66's rows cover every key that is not reserved, so no key answers this. -/
  | noRow
deriving DecidableEq, Repr

/-- The decoder of 30_encoding.md R66: refuse a key that is not one of the format's, refuse the reserved keys of R67, and then
pick the format's row with `(key & mask) == match`. -/
def decode (f : Format) (k : Key) : Except DecodeError Instr :=
  if !k.fits f then .error .keyTooWide
  else if k.reserved f then .error .reservedKey
  else match Instr.table.find? (fun i => i.format == f && i.matchesKey k) with
    | some i => .ok i
    | none => .error .noRow

/-- The bits of a format's keys. -/
def Format.keyMask (f : Format) : Key := BitVec.ofNat 5 (2 ^ f.width - 1)

/-- The key that names an operation in its format: the row's match, with the bits the row's mask leaves open taken from
`free` (30_encoding.md R66). -/
def encode (i : Instr) (free : Key) : Key :=
  i.pattern.pat ||| (free &&& ~~~i.pattern.mask &&& i.format.keyMask)

/-- The format in which a bare word of spec/opcode_table.json is read. DESIGN CHOICE (log 7), safe: the table numbers a row's
key bits and not its format, so one word is a key of several formats; the narrowest format the word fits is taken, and
among the four two-bit formats F_CTL, the one whose four keys are four different operations. -/
def tableFormat (w : Nat) : Format :=
  if w < 4 then .ctl else if w < 8 then .mode else if w < 16 then .enc else .db

/-- The operation the decoder reads from a bare table word of `nbits` bits (log 7). -/
def decodeTableWord (nbits w : Nat) : Option Instr :=
  if w < 2 ^ nbits ∧ w < 32 then (decode (tableFormat w) (BitVec.ofNat 5 w)).toOption else none

end Sys2Proof
end

