-- ==== Sys2Proof/Machine/State.lean ====
section
/-! DEFINITION. State: every register the spec gives the block (10_state.md R16), the model's three own fields, the reasons
a step can stop, and the reset state (70_reset_and_hazards.md R180). -/

namespace Sys2Proof.Machine

/-- The state `S(t)` of 10_state.md R16, one field per register in its order, and after them the model's own `clkHz`,
`tick` and `schedule`. -/
structure State where
  /-- 0 .. N-1 (R20); its range is checked by the step (R67). -/
  tbCount : Nat
  /-- The timebase's toggling clock bit (R20). -/
  tbClk : Bool
  /-- The encoder's state (R21). -/
  encState : EncState
  /-- The latched data bit (R22). -/
  encBit : Bool
  /-- The clock bit delayed by one enabled tick (R23). -/
  encClkDly : Bool
  /-- `stop` was asserted since the last cycle boundary (R24). -/
  encStopPend : Bool
  /-- The debounce sampling counter (R25). -/
  dbCount : BitVec 8
  /-- The debounce register; bit 2 is the debounced value (R26). -/
  dbReg : BitVec 3
  /-- The saturating trigger counter (R27). -/
  trgCount : BitVec 4
  /-- The controller's state (R28). -/
  ctlState : CtlState
  /-- 0 .. 16 (R29); 17 to 31 are refused by the step (R67). -/
  bitCounter : BitVec 5
  /-- The mode register (R30). -/
  mode : Mode
  /-- The pending-switch latch (R31). -/
  modePending : Bool
  /-- The encoder's enable flag (R32). -/
  encEn : Bool
  /-- The start latch (R33). -/
  starting : Bool
  /-- The debounced button value of the previous tick (R34). -/
  btnPrev : Bool
  /-- The encoder output of the previous tick (R35). -/
  outPrev : Bool
  /-- `CLK_HZ`, the configuration (00_scope.md R6). DESIGN CHOICE (log 1), safe: held in State because the host's interface
  passes no argument to a step; no step changes it. -/
  clkHz : Nat
  /-- The tick number `t` of `S(t)` (00_scope.md R10). DESIGN CHOICE (log 4), safe: the model's own. -/
  tick : Nat
  /-- What is left of the host's program, the run of this tick first (30_encoding.md R70). DESIGN CHOICE (log 3), safe: the
  model's own; past its end the inputs are free. -/
  schedule : List InputRun
deriving DecidableEq, Repr

/-- The block raises nothing while it runs (60_exceptions.md R160). The one error is ConfigError, raised before tick 0; a
state whose configuration is illegal is no machine, and boot and step both answer with it. Safe. -/
inductive Fault where
  /-- ConfigError cause 1, HALF_BIT_TOO_SMALL: `CLK_HZ` is a positive integer and `N < 2`; it records both (R161). Raised by
  boot, and by step in a state no boot makes. Safe. -/
  | halfBitTooSmall (clkHz halfBit : Nat)
  /-- ConfigError cause 2, CLK_NOT_POSITIVE_INTEGER: it records the value supplied (R162). Raised by boot, and by step in a
  state no boot makes. Safe. -/
  | clkNotPositiveInteger (supplied : Rat)
deriving DecidableEq, Repr

/-- What the model refuses. None is an exception of the hardware (60_exceptions.md R163, R177). -/
inductive Refusal where
  /-- An operation whose meaning is not written; no operation of the table is left so. Raised by exec only. Safe. -/
  | notModelled (mnemonic : String)
  /-- `tbCount >= N`, a value no rule writes (30_encoding.md R67). Raised by step. Safe. -/
  | tbCountOutOfRange
  /-- `bitCounter` 17 to 31, values no rule writes (30_encoding.md R67). Raised by step. Safe. -/
  | bitCounterOutOfRange
  /-- A dispatch key that names no operation: too wide for its format or reserved (30_encoding.md R67). Raised by the dispatch of
  a tick; no state of this model assembles such a key. Safe. -/
  | reservedKey (f : Format) (k : Key)
  /-- A program text with a word outside 0 to 3, a count below 1 or a line not of the form of 30_encoding.md R70
  (60_exceptions.md R177). Raised by the program loader, and by step in a state no loader makes. Safe. -/
  | illegalProgram
deriving DecidableEq, Repr

/-- The reset state `S(0)` for a configuration (70_reset_and_hazards.md R180): every register 0, IDLE or TRIGGERED. -/
def State.resetAt (clkHz : Nat) : State where
  tbCount := 0
  tbClk := false
  encState := .idle
  encBit := false
  encClkDly := false
  encStopPend := false
  dbCount := 0
  dbReg := 0b000
  trgCount := 0
  ctlState := .idle
  bitCounter := 0
  mode := .triggered
  modePending := false
  encEn := false
  starting := false
  btnPrev := false
  outPrev := false
  clkHz := clkHz
  tick := 0
  schedule := []

/-- The machine right after reset (70_reset_and_hazards.md R180). DESIGN CHOICE (log 2): at the reference clock of 12 MHz. -/
def State.reset : State := State.resetAt Config.referenceClkHz

end Sys2Proof.Machine
end

