-- ==== Sys2Proof/Machine/Operands.lean ====
section
/-! DEFINITION. Operands: what an operation reads besides plain registers (30_encoding.md R68): the inputs of the tick, the
half-bit period, the payload bit, the debounce table's row and the trigger window. -/

namespace Sys2Proof.Machine

/-- `N` of the state's configuration (40_timebase.md R71). -/
def State.halfBit (s : State) : Nat := Config.halfBit s.clkHz

/-- The input word of this tick, `{buttonIn, triggerIn}` (30_encoding.md R70): the head of the schedule, or the free value
once the program has ended (log 3). -/
def State.inputWord (s : State) : InputWord :=
  match s.schedule with
  | [] => Config.freeInput s.tick
  | r :: _ => r.word

/-- `buttonIn` of this tick, bit 1 of the input word (10_state.md R17, 30_encoding.md R70). -/
def State.buttonIn (s : State) : Bool := s.inputWord.getLsbD 1

/-- `triggerIn` of this tick, bit 0 of the input word (10_state.md R17, 30_encoding.md R70). -/
def State.triggerIn (s : State) : Bool := s.inputWord.getLsbD 0

/-- The schedule of the next tick: one tick of its first run is used up (30_encoding.md R70). -/
def nextSchedule : List InputRun → List InputRun
  | [] => []
  | r :: rs => if r.count ≤ 1 then rs else ⟨r.count - 1, r.word⟩ :: rs

/-- The schedule after `k` ticks. -/
def dropTicks : Nat → List InputRun → List InputRun
  | 0, l => l
  | k + 1, l => dropTicks k (nextSchedule l)

/-- The input word `w(t + k)` of the tick `k` ticks ahead (30_encoding.md R70), free where the program has ended by then. -/
def State.inputAfter (s : State) (k : Nat) : InputWord :=
  match dropTicks k s.schedule with
  | [] => Config.freeInput (s.tick + k)
  | r :: _ => r.word

/-- `buttonIn` of the tick `k` ticks ahead. -/
def State.buttonAfter (s : State) (k : Nat) : Bool := (s.inputAfter k).getLsbD 1

/-- `triggerIn` of the tick `k` ticks ahead. -/
def State.triggerAfter (s : State) (k : Nat) : Bool := (s.inputAfter k).getLsbD 0

/-- `PAYLOAD[i]` for i up to 15, bit 0 the least significant, and 0 above (20_memory.md R45, R48; 30_encoding.md R68). -/
def payloadBit (i : BitVec 5) : Bool := if i.toNat ≤ 15 then Config.payload.getLsbD i.toNat else false

/-- The trigger window test, inclusive at both ends (30_encoding.md R68, 43_trigger_detector.md R122). -/
def inTriggerWindow (c : BitVec 4) : Bool := Config.trgLo.toNat ≤ c.toNat && c.toNat ≤ Config.trgHi.toNat

/-- Count up and saturate at 15 (43_trigger_detector.md R120). -/
def saturatingSucc (c : BitVec 4) : BitVec 4 := if c = Config.trgSat then Config.trgSat else c + 1

end Sys2Proof.Machine
end

