-- ==== Sys2Proof/Machine/Flags.lean ====
section
/-! DEFINITION. Flags: the phase-1 signals of 10_state.md R36, each a function of `S(t)` and `I(t)` alone, the conditions
the F_EN and F_ST keys are made of, the outputs, and the dispatch keys (30_encoding.md R57 to R64). -/

namespace Sys2Proof.Machine

/-- `hbc = (tbCount == N - 1)` (40_timebase.md R71). -/
def State.hbc (s : State) : Bool := s.tbCount == s.halfBit - 1

/-- `tbCC = hbc and not tbClk`, the cycle boundary (40_timebase.md R75). -/
def State.tbCC (s : State) : Bool := s.hbc && !s.tbClk

/-- `encOut`, the encoder's `manchesterOut`, a function of its registers alone (41_manchester_encoder.md R81). -/
def State.encOut (s : State) : Bool :=
  match s.encState with
  | .startBit => s.encClkDly
  | .bitEncode => !(s.encBit ^^ s.encClkDly)
  | .idle | .waitStart | .stopBit => false

/-- `encState in {START_BIT, BIT_ENCODE, STOP_BIT}`, the states that forward the cycle pulse (41_manchester_encoder.md R82). -/
def State.encSending (s : State) : Bool :=
  match s.encState with
  | .startBit | .bitEncode | .stopBit => true
  | .idle | .waitStart => false

/-- `encCC`, the encoder's external cycle pulse, 0 while frozen (41_manchester_encoder.md R82). -/
def State.encCC (s : State) : Bool := s.encEn && s.tbCC && s.encSending

/-- `encHBC`, the encoder's external half-bit pulse, 0 while frozen; nothing in the block reads it (R82). -/
def State.encHBC (s : State) : Bool := s.encEn && s.hbc

/-- `dbSample = (dbCount[6:0] == 0b1111111)` (42_button_debouncer.md R100). -/
def State.dbSample (s : State) : Bool := s.dbCount.extractLsb' 0 7 == 0b1111111#7

/-- `dbOut = dbReg[2]`, the debounced button value (42_button_debouncer.md R114). -/
def State.dbOut (s : State) : Bool := s.dbReg.getLsbD 2

/-- `trgFall`: `triggerIn` was high last tick and is low now (43_trigger_detector.md R122). -/
def State.trgFall (s : State) : Bool := !s.triggerIn && s.trgCount != 0

/-- `trigger`: an accepted trigger pulse has just ended (43_trigger_detector.md R122). -/
def State.trigger (s : State) : Bool := s.trgFall && inTriggerWindow s.trgCount

/-- `btnFall`, the falling edge of `dbOut` (44_controller.md R135). -/
def State.btnFall (s : State) : Bool := s.btnPrev && !s.dbOut

/-- `outRise`, the rising edge of `encOut` (44_controller.md R135). -/
def State.outRise (s : State) : Bool := s.encOut && !s.outPrev

/-- `running = ctlState in {TRANSMIT, STOP}` (44_controller.md R130). -/
def State.running (s : State) : Bool :=
  match s.ctlState with
  | .transmit | .stop => true
  | .idle | .start => false

/-- `encStart = (ctlState == START)`, the encoder's `start` (44_controller.md R130). -/
def State.encStart (s : State) : Bool := s.ctlState == .start

/-- `encStop`, the encoder's `stop`: the cycle pulse on which the sequencer finds 16 (44_controller.md R130). -/
def State.encStop (s : State) : Bool := s.ctlState == .transmit && s.encCC && s.bitCounter == Config.bitCountMax

/-- `bitIn`: the payload bit offered to the encoder, 0 at 16 (44_controller.md R130). -/
def State.bitIn (s : State) : Bool := payloadBit s.bitCounter

/-- `switchReq = btnFall or modePending` (44_controller.md R142). -/
def State.switchReq (s : State) : Bool := s.btnFall || s.modePending

/-- `enCond`, the enable condition (44_controller.md R136). -/
def State.enCond (s : State) : Bool :=
  (s.ctlState == .idle || s.ctlState == .start) || s.mode == .continuous || s.trigger

/-- `disCond`, the disable condition (44_controller.md R136). -/
def State.disCond (s : State) : Bool := s.mode == .triggered && s.running && s.outRise && !s.starting

/-- `stClear`, the start latch's clear condition (44_controller.md R140). -/
def State.stClear (s : State) : Bool := s.running && s.outRise && s.starting

/-- `swoOut = encOut` (44_controller.md R146). -/
def State.swoOut (s : State) : Bool := s.encOut

/-- `ledRun = running and encEn` (44_controller.md R146). -/
def State.ledRun (s : State) : Bool := s.running && s.encEn

/-- `ledMode = (mode == CONTINUOUS)` (44_controller.md R146). -/
def State.ledMode (s : State) : Bool := s.mode == .continuous

/-- The three output ports, functions of `S(t)` only (10_state.md R18). -/
def State.outputs (s : State) : Outputs := ⟨s.swoOut, s.ledRun, s.ledMode⟩

/-- The dispatch key of each format, assembled in phase 1, most significant field first (30_encoding.md R57 to R64). -/
def State.key (s : State) (f : Format) : Key :=
  match f with
  | .tb => (bit s.hbc ++ bit s.tbClk).setWidth 5
  | .enc => (bit s.encEn ++ s.encState.code).setWidth 5
  | .db => (bit s.dbSample ++ s.dbReg ++ bit s.buttonIn).setWidth 5
  | .trg => (bit s.triggerIn ++ s.trgCount).setWidth 5
  | .ctl => s.ctlState.code.setWidth 5
  | .en => (bit s.enCond ++ bit s.disCond).setWidth 5
  | .st => (bit s.encStart ++ bit s.stClear).setWidth 5
  | .mode => (bit s.mode.code ++ bit s.switchReq ++ bit (s.ctlState == .stop)).setWidth 5

end Sys2Proof.Machine
end

