-- ==== Sys2Proof/Machine/Ops.lean ====
section
/-! DEFINITION. Ops: the named writes of phase 2, one per owner of registers (30_encoding.md R65), the writes several
operations share, raising ConfigError (60_exceptions.md R161, R162: the one error; the block has no trap entry and no trap
return, R166 and R167), and the check that a state is one the machine can step from. -/

namespace Sys2Proof.Machine

/-- Run `k` on the next state, or stop as `o` stops. -/
def andThen (o : Host.Outcome State Fault Refusal) (k : State → Host.Outcome State Fault Refusal) :
    Host.Outcome State Fault Refusal :=
  match o with
  | .next s => k s
  | .fault e => .fault e
  | .refused r => .refused r

/-- The writes of format F_TB (30_encoding.md R65). -/
def State.writeTimebase (s : State) (count : Nat) (clk : Bool) : State := { s with tbCount := count, tbClk := clk }

/-- The writes of format F_ENC (30_encoding.md R65). -/
def State.writeEncoder (s : State) (st : EncState) (dataBit clkDly stopPend : Bool) : State :=
  { s with encState := st, encBit := dataBit, encClkDly := clkDly, encStopPend := stopPend }

/-- The writes of format F_DB (30_encoding.md R65). -/
def State.writeDebouncer (s : State) (count : BitVec 8) (reg : BitVec 3) : State := { s with dbCount := count, dbReg := reg }

/-- The write of format F_TRG (30_encoding.md R65). -/
def State.writeTrigger (s : State) (count : BitVec 4) : State := { s with trgCount := count }

/-- The writes of format F_CTL (30_encoding.md R65). -/
def State.writeController (s : State) (st : CtlState) (count : BitVec 5) : State :=
  { s with ctlState := st, bitCounter := count }

/-- The write of format F_EN (30_encoding.md R65). -/
def State.writeEnable (s : State) (en : Bool) : State := { s with encEn := en }

/-- The write of format F_ST (30_encoding.md R65). -/
def State.writeStarting (s : State) (v : Bool) : State := { s with starting := v }

/-- The writes of format F_MODE (30_encoding.md R65). -/
def State.writeMode (s : State) (m : Mode) (pending : Bool) : State := { s with mode := m, modePending := pending }

/-- The state with the host's program in front of it (30_encoding.md R70). -/
def State.loadSchedule (s : State) (l : List InputRun) : State := { s with schedule := l }

/-- The two writes every enabled encoder operation performs (41_manchester_encoder.md R84), together with its own: the next
state and the next data bit. -/
def State.encEnabledWrite (s : State) (st : EncState) (dataBit : Bool) : State :=
  s.writeEncoder st dataBit s.tbClk (if s.tbCC then false else s.encStopPend || s.encStop)

/-- What every debouncer operation does (42_button_debouncer.md R100): the counter advances modulo 256, and the register
takes the row's value. -/
def State.dbAdvance (s : State) (reg : BitVec 3) : State := s.writeDebouncer (s.dbCount + 1) reg

/-- The cause code of a ConfigError (60_exceptions.md R161, R162). -/
def Fault.causeCode : Fault → Nat
  | .halfBitTooSmall _ _ => 1
  | .clkNotPositiveInteger _ => 2

/-- The name of a ConfigError's cause (60_exceptions.md R161, R162). -/
def Fault.causeName : Fault → String
  | .halfBitTooSmall _ _ => "HALF_BIT_TOO_SMALL"
  | .clkNotPositiveInteger _ => "CLK_NOT_POSITIVE_INTEGER"

/-- Raise ConfigError for a supplied `CLK_HZ`, cause 2 tested first, or go on with the checked value
(60_exceptions.md R161, R162). -/
def configCheck (clk : Rat) (k : Nat → Host.Outcome State Fault Refusal) : Host.Outcome State Fault Refusal :=
  if clk.den ≠ 1 ∨ clk.num ≤ 0 then .fault (.clkNotPositiveInteger clk)
  else if Config.halfBit clk.num.toNat < 2 then .fault (.halfBitTooSmall clk.num.toNat (Config.halfBit clk.num.toNat))
  else k clk.num.toNat

/-- Boot (70_reset_and_hazards.md R184): validate the configuration, then set the state to `S(0)`. -/
def boot (clk : Rat) : Host.Outcome State Fault Refusal := configCheck clk fun c => .next (State.resetAt c)

/-- The state as a machine that can run: a legal configuration (60_exceptions.md R161, R162), no unreachable register value
(30_encoding.md R67) and a legal program (60_exceptions.md R177). Anything else stops by name before any key is decoded. -/
def validated (s : State) : Host.Outcome State Fault Refusal :=
  if s.clkHz = 0 then .fault (.clkNotPositiveInteger 0)
  else if s.halfBit < 2 then .fault (.halfBitTooSmall s.clkHz s.halfBit)
  else if s.halfBit ≤ s.tbCount then .refused .tbCountOutOfRange
  else if Config.bitCountMax.toNat < s.bitCounter.toNat then .refused .bitCounterOutOfRange
  else if s.schedule.all InputRun.wf then .next s
  else .refused .illegalProgram

end Sys2Proof.Machine
end

