-- ==== Sys2Proof/Machine/Controller.lean ====
section
/-! DEFINITION. Controller: the meanings of format F_CTL, the frame state machine and bit sequencer (44_controller.md R131
to R134). -/

namespace Sys2Proof.Machine

/-- CTL.IDLE: a trigger or CONTINUOUS mode starts a frame (44_controller.md R131). -/
def execCtlIdle (s : State) : Host.Outcome State Fault Refusal :=
  .next (s.writeController (if s.trigger || s.mode == .continuous then .start else s.ctlState) s.bitCounter)

/-- CTL.START: begin the frame; the encoder's start is asserted on this tick by R130 (44_controller.md R132). -/
def execCtlStart (s : State) : Host.Outcome State Fault Refusal := .next (s.writeController .transmit 0)

/-- CTL.TRANSMIT: count one bit per encoder cycle, and after 16 bits go to STOP (44_controller.md R133). -/
def execCtlTransmit (s : State) : Host.Outcome State Fault Refusal :=
  .next <|
    if s.encCC then
      if s.bitCounter != Config.bitCountMax then s.writeController s.ctlState (s.bitCounter + 1)
      else s.writeController .stop 0
    else s

/-- CTL.STOP: wait for the stop symbol to end (44_controller.md R134). -/
def execCtlStop (s : State) : Host.Outcome State Fault Refusal :=
  .next (s.writeController (if s.encCC then .idle else s.ctlState) s.bitCounter)

end Sys2Proof.Machine
end

