-- ==== Sys2Proof/Machine/Debouncer.lean ====
section
/-! DEFINITION. Debouncer: the meanings of format F_DB (42_button_debouncer.md R101, R103 to R112). Every operation also
advances the sampling counter (R100). -/

namespace Sys2Proof.Machine

/-- DB.WAIT: no sample tick, the register is not written (42_button_debouncer.md R101). -/
def execDbWait (s : State) : Host.Outcome State Fault Refusal := .next (s.dbAdvance s.dbReg)

/-- DB.R0xx0: the output is low and the sample is 0, so the count of ones restarts (42_button_debouncer.md R103). -/
def execDbR0xx0 (s : State) : Host.Outcome State Fault Refusal := .next (s.dbAdvance 0b000)

/-- DB.R0001: the first 1 sample with the output low (42_button_debouncer.md R104). -/
def execDbR0001 (s : State) : Host.Outcome State Fault Refusal := .next (s.dbAdvance 0b001)

/-- DB.R0011: the second consecutive 1 sample (42_button_debouncer.md R105). -/
def execDbR0011 (s : State) : Host.Outcome State Fault Refusal := .next (s.dbAdvance 0b010)

/-- DB.R0101: the third consecutive 1 sample (42_button_debouncer.md R106). -/
def execDbR0101 (s : State) : Host.Outcome State Fault Refusal := .next (s.dbAdvance 0b011)

/-- DB.R0111: the fourth consecutive 1 sample, so the output rises (42_button_debouncer.md R107). -/
def execDbR0111 (s : State) : Host.Outcome State Fault Refusal := .next (s.dbAdvance 0b111)

/-- DB.R1xx1: the output is high and the sample is 1, so the count of zeros restarts (42_button_debouncer.md R108). -/
def execDbR1xx1 (s : State) : Host.Outcome State Fault Refusal := .next (s.dbAdvance 0b111)

/-- DB.R1110: the first 0 sample with the output high (42_button_debouncer.md R109). -/
def execDbR1110 (s : State) : Host.Outcome State Fault Refusal := .next (s.dbAdvance 0b110)

/-- DB.R1100: the second consecutive 0 sample (42_button_debouncer.md R110). -/
def execDbR1100 (s : State) : Host.Outcome State Fault Refusal := .next (s.dbAdvance 0b101)

/-- DB.R1010: the third consecutive 0 sample (42_button_debouncer.md R111). -/
def execDbR1010 (s : State) : Host.Outcome State Fault Refusal := .next (s.dbAdvance 0b100)

/-- DB.R1000: the fourth consecutive 0 sample, so the output falls (42_button_debouncer.md R112). -/
def execDbR1000 (s : State) : Host.Outcome State Fault Refusal := .next (s.dbAdvance 0b000)

end Sys2Proof.Machine
end

