-- ==== Sys2Proof/Machine/Enable.lean ====
section
/-! DEFINITION. Enable: the meanings of format F_EN, the encoder enable flag (44_controller.md R136 to R138), and of format
F_ST, the start latch (R139 to R141). -/

namespace Sys2Proof.Machine

/-- EN.SET: an enable condition holds (44_controller.md R136). -/
def execEnSet (s : State) : Host.Outcome State Fault Refusal := .next (s.writeEnable true)

/-- EN.CLEAR: no enable condition holds and the disable condition does (44_controller.md R137). -/
def execEnClear (s : State) : Host.Outcome State Fault Refusal := .next (s.writeEnable false)

/-- EN.HOLD: neither holds, the flag is not written (44_controller.md R138). -/
def execEnHold (s : State) : Host.Outcome State Fault Refusal := .next s

/-- ST.SET: the controller is in START (44_controller.md R139). -/
def execStSet (s : State) : Host.Outcome State Fault Refusal := .next (s.writeStarting true)

/-- ST.CLEAR: the first rising edge while running has been seen (44_controller.md R140). -/
def execStClear (s : State) : Host.Outcome State Fault Refusal := .next (s.writeStarting false)

/-- ST.HOLD: the latch is not written (44_controller.md R141). -/
def execStHold (s : State) : Host.Outcome State Fault Refusal := .next s

end Sys2Proof.Machine
end

