-- ==== Sys2Proof/Machine/Encoder.lean ====
section
/-! DEFINITION. Encoder: the meanings of format F_ENC (41_manchester_encoder.md R83 to R89). Each enabled operation makes
the two writes of R84 in addition to its own. -/

namespace Sys2Proof.Machine

/-- ENC.FROZEN: none of the encoder's registers is written (41_manchester_encoder.md R83). -/
def execEncFrozen (s : State) : Host.Outcome State Fault Refusal := .next s

/-- ENC.IDLE: wait for a start pulse (41_manchester_encoder.md R85). -/
def execEncIdle (s : State) : Host.Outcome State Fault Refusal :=
  .next (s.encEnabledWrite (if s.encStart then .waitStart else s.encState) s.encBit)

/-- ENC.WAIT_START: wait for the next boundary of the timebase (41_manchester_encoder.md R86). -/
def execEncWaitStart (s : State) : Host.Outcome State Fault Refusal :=
  .next (s.encEnabledWrite (if s.tbCC then .startBit else s.encState) s.encBit)

/-- ENC.START_BIT: at the boundary, latch the first data bit and go on to the data (41_manchester_encoder.md R87). -/
def execEncStartBit (s : State) : Host.Outcome State Fault Refusal :=
  .next (s.encEnabledWrite (if s.tbCC then .bitEncode else s.encState) (if s.tbCC then s.bitIn else s.encBit))

/-- ENC.BIT_ENCODE: at each boundary latch the next bit, and stop if a stop is asserted or was recorded since the last
boundary (41_manchester_encoder.md R88). -/
def execEncBitEncode (s : State) : Host.Outcome State Fault Refusal :=
  .next (s.encEnabledWrite (if s.tbCC && (s.encStop || s.encStopPend) then .stopBit else s.encState)
    (if s.tbCC then s.bitIn else s.encBit))

/-- ENC.STOP_BIT: at the boundary, return to IDLE (41_manchester_encoder.md R89). -/
def execEncStopBit (s : State) : Host.Outcome State Fault Refusal :=
  .next (s.encEnabledWrite (if s.tbCC then .idle else s.encState) s.encBit)

end Sys2Proof.Machine
end

