-- ==== Sys2Proof/Machine/ModeRegister.lean ====
section
/-! DEFINITION. ModeRegister: the meanings of format F_MODE, the mode register and its pending-switch latch
(44_controller.md R142 to R145). -/

namespace Sys2Proof.Machine

/-- MODE.HOLD: no switch is requested, neither register is written (44_controller.md R142). -/
def execModeHold (s : State) : Host.Outcome State Fault Refusal := .next s

/-- MODE.T2C: requested while TRIGGERED, so CONTINUOUS applies at once (44_controller.md R143). -/
def execModeT2C (s : State) : Host.Outcome State Fault Refusal := .next (s.writeMode .continuous false)

/-- MODE.C2T: requested or pending while CONTINUOUS, and the controller is in STOP (44_controller.md R144). -/
def execModeC2T (s : State) : Host.Outcome State Fault Refusal := .next (s.writeMode .triggered false)

/-- MODE.DEFER: requested or pending while CONTINUOUS, outside STOP: the request is held (44_controller.md R145). -/
def execModeDefer (s : State) : Host.Outcome State Fault Refusal := .next (s.writeMode s.mode true)

end Sys2Proof.Machine
end

