-- ==== Sys2Proof/Machine/Timebase.lean ====
section
/-! DEFINITION. Timebase: the meanings of format F_TB (40_timebase.md R72 to R74). -/

namespace Sys2Proof.Machine

/-- TB.COUNT: the counter advances, the clock bit holds (40_timebase.md R72). -/
def execTbCount (s : State) : Host.Outcome State Fault Refusal := .next (s.writeTimebase (s.tbCount + 1) s.tbClk)

/-- TB.HALF: the counter wraps, the clock bit goes to 0 (40_timebase.md R73). -/
def execTbHalf (s : State) : Host.Outcome State Fault Refusal := .next (s.writeTimebase 0 false)

/-- TB.CYCLE: the counter wraps, the clock bit goes to 1 (40_timebase.md R74). -/
def execTbCycle (s : State) : Host.Outcome State Fault Refusal := .next (s.writeTimebase 0 true)

end Sys2Proof.Machine
end

