-- ==== Sys2Proof/Machine/Trigger.lean ====
section
/-! DEFINITION. Trigger: the meanings of format F_TRG (43_trigger_detector.md R120, R121). -/

namespace Sys2Proof.Machine

/-- TRG.HIGH: the input is high, the counter counts up and saturates at 15 (43_trigger_detector.md R120). -/
def execTrgHigh (s : State) : Host.Outcome State Fault Refusal := .next (s.writeTrigger (saturatingSucc s.trgCount))

/-- TRG.LOW: the input is low, the counter is cleared (43_trigger_detector.md R121). -/
def execTrgLow (s : State) : Host.Outcome State Fault Refusal := .next (s.writeTrigger 0)

end Sys2Proof.Machine
end

