-- ==== Sys2Proof/Machine/Dispatch.lean ====
section
/-! DEFINITION. Dispatch: the meaning of every operation of spec/opcode_table.json. `exec i s` is what operation `i` writes
when it reads `S(t) = s`: the registers of its format change, every other field of `s` stands. -/

namespace Sys2Proof.Machine

def exec (i : Instr) (s : State) : Host.Outcome State Fault Refusal :=
  match i with
  | .tbCount => Sys2Proof.Machine.execTbCount s
  | .tbHalf => Sys2Proof.Machine.execTbHalf s
  | .tbCycle => Sys2Proof.Machine.execTbCycle s
  | .encFrozen => Sys2Proof.Machine.execEncFrozen s
  | .encIdle => Sys2Proof.Machine.execEncIdle s
  | .encWaitStart => Sys2Proof.Machine.execEncWaitStart s
  | .encStartBit => Sys2Proof.Machine.execEncStartBit s
  | .encBitEncode => Sys2Proof.Machine.execEncBitEncode s
  | .encStopBit => Sys2Proof.Machine.execEncStopBit s
  | .dbWait => Sys2Proof.Machine.execDbWait s
  | .dbR0xx0 => Sys2Proof.Machine.execDbR0xx0 s
  | .dbR0001 => Sys2Proof.Machine.execDbR0001 s
  | .dbR0011 => Sys2Proof.Machine.execDbR0011 s
  | .dbR0101 => Sys2Proof.Machine.execDbR0101 s
  | .dbR0111 => Sys2Proof.Machine.execDbR0111 s
  | .dbR1xx1 => Sys2Proof.Machine.execDbR1xx1 s
  | .dbR1110 => Sys2Proof.Machine.execDbR1110 s
  | .dbR1100 => Sys2Proof.Machine.execDbR1100 s
  | .dbR1010 => Sys2Proof.Machine.execDbR1010 s
  | .dbR1000 => Sys2Proof.Machine.execDbR1000 s
  | .trgHigh => Sys2Proof.Machine.execTrgHigh s
  | .trgLow => Sys2Proof.Machine.execTrgLow s
  | .ctlIdle => Sys2Proof.Machine.execCtlIdle s
  | .ctlStart => Sys2Proof.Machine.execCtlStart s
  | .ctlTransmit => Sys2Proof.Machine.execCtlTransmit s
  | .ctlStop => Sys2Proof.Machine.execCtlStop s
  | .enSet => Sys2Proof.Machine.execEnSet s
  | .enClear => Sys2Proof.Machine.execEnClear s
  | .enHold => Sys2Proof.Machine.execEnHold s
  | .stSet => Sys2Proof.Machine.execStSet s
  | .stClear => Sys2Proof.Machine.execStClear s
  | .stHold => Sys2Proof.Machine.execStHold s
  | .modeHold => Sys2Proof.Machine.execModeHold s
  | .modeT2C => Sys2Proof.Machine.execModeT2C s
  | .modeC2T => Sys2Proof.Machine.execModeC2T s
  | .modeDefer => Sys2Proof.Machine.execModeDefer s

end Sys2Proof.Machine
end

