-- ==== Sys2Proof/Machine/Tick.lean ====
section
/-! DEFINITION. Tick: one tick of the block. Every format's operation is chosen by its dispatch key and run on the same
`S(t)`, and their writes, which never touch the same register, form `S(t+1)` (00_scope.md R11, 30_encoding.md R65). -/

namespace Sys2Proof.Machine

/-- The operation of one format on this tick, run on `S(t)` (30_encoding.md R65, R66). -/
def runFormat (f : Format) (s : State) : Host.Outcome State Fault Refusal :=
  match decode f (s.key f) with
  | .ok i => exec i s
  | .error _ => .refused (.reservedKey f (s.key f))

/-- `S(t+1)`: from each operation's result the registers its format owns (30_encoding.md R65), the edge registers of
44_controller.md R135, and the next tick of the schedule. The results are those of `S(t) = s`, in the order F_TB, F_ENC, F_DB,
F_TRG, F_CTL, F_EN, F_ST, F_MODE, which changes nothing (20_memory.md R49). -/
def commit (s tb enc db trg ctl en st md : State) : State where
  tbCount := tb.tbCount
  tbClk := tb.tbClk
  encState := enc.encState
  encBit := enc.encBit
  encClkDly := enc.encClkDly
  encStopPend := enc.encStopPend
  dbCount := db.dbCount
  dbReg := db.dbReg
  trgCount := trg.trgCount
  ctlState := ctl.ctlState
  bitCounter := ctl.bitCounter
  mode := md.mode
  modePending := md.modePending
  encEn := en.encEn
  starting := st.starting
  btnPrev := s.dbOut
  outPrev := s.encOut
  clkHz := s.clkHz
  tick := s.tick + 1
  schedule := nextSchedule s.schedule

/-- One tick (00_scope.md R11, 20_memory.md R50). -/
def tickStep (s : State) : Host.Outcome State Fault Refusal :=
  andThen (validated s) fun s =>
  andThen (runFormat .tb s) fun tb =>
  andThen (runFormat .enc s) fun enc =>
  andThen (runFormat .db s) fun db =>
  andThen (runFormat .trg s) fun trg =>
  andThen (runFormat .ctl s) fun ctl =>
  andThen (runFormat .en s) fun en =>
  andThen (runFormat .st s) fun st =>
  andThen (runFormat .mode s) fun md =>
  .next (commit s tb enc db trg ctl en st md)

end Sys2Proof.Machine
end

