-- ==== Sys2Proof/Machine/Fetch.lean ====
section
/-! DEFINITION. Fetch: where a tick finds its operations. The block fetches nothing (20_memory.md R53): a format's operation
is selected by a key assembled from registers and inputs, so an operation is placed by setting what its key is made of
(log 7). -/

namespace Sys2Proof.Machine

/-- The schedule with its next tick's input word given: one run of one tick in front. -/
def State.withInput (s : State) (button trigger : Bool) : State :=
  { s with schedule := ⟨1, bit button ++ bit trigger⟩ :: s.schedule }

/-- A state whose next tick has an input word: the schedule as it is, or, where it has ended, one tick of both inputs low. -/
def State.withSomeInput (s : State) : State := if s.schedule = [] then s.withInput false false else s

/-- A qualifying rising edge of the line while running in TRIGGERED mode (44_controller.md R136, R140), with the start latch
given. -/
def State.withLineRise (s : State) (latch : Bool) : State :=
  { s with encState := .startBit, encClkDly := true, outPrev := false, ctlState := .transmit, mode := .triggered,
           starting := latch, trgCount := 0 }

/-- The state with registers and inputs set so that the key of format `f` is `k` on the next tick. The keys no state can have
(a reserved F_ENC code, F_ST's 11 which R165 (b) excludes) leave the registers they would need as they are, or set the
tested-first half. -/
def State.placeKey (s : State) (f : Format) (k : Key) : State :=
  match f with
  | .tb => { s.withSomeInput with tbCount := if k.getLsbD 1 then s.halfBit - 1 else 0, tbClk := k.getLsbD 0 }
  | .enc =>
    { s.withSomeInput with
        encEn := k.getLsbD 3, encState := (EncState.ofCode (k.extractLsb' 0 3)).getD s.encState }
  | .db =>
    { s.withInput (k.getLsbD 0) false with
        dbCount := if k.getLsbD 4 then 127 else 0, dbReg := k.extractLsb' 1 3 }
  | .trg => { s.withInput false (k.getLsbD 4) with trgCount := k.extractLsb' 0 4 }
  | .ctl => { s.withSomeInput with ctlState := CtlState.ofCode (k.extractLsb' 0 2) }
  | .en =>
    if k.getLsbD 0 then { (s.withInput false false).withLineRise false with trgCount := if k.getLsbD 1 then 12 else 0 }
    else if k.getLsbD 1 then { s.withSomeInput with ctlState := .idle, mode := .triggered }
    else (s.withInput false false).withLineRise true
  | .st =>
    if k.getLsbD 1 then { s.withSomeInput with ctlState := .start }
    else if k.getLsbD 0 then (s.withInput false false).withLineRise true
    else { s.withSomeInput with ctlState := .idle }
  | .mode =>
    { s.withSomeInput with
        mode := Mode.ofCode (k.getLsbD 2), modePending := k.getLsbD 1, btnPrev := false,
        ctlState := if k.getLsbD 0 then .stop else .idle }

end Sys2Proof.Machine
end

