-- ==== Sys2Proof/Machine/Step.lean ====
section
/-! DEFINITION. Step: one step of the machine is one tick, one rising edge of `clock` (00_scope.md R10). -/

namespace Sys2Proof.Machine

/-- One step: one tick (log 5). -/
def step (s : State) : Host.Outcome State Fault Refusal := tickStep s

/-- The state whose next tick runs, in the format `tableFormat` reads a bare table word in, the operation that word names
(log 7). A word wider than a key places nothing. -/
def State.withFetchWord (s : State) (nbits w : Nat) : State :=
  if w < 2 ^ nbits ∧ w < 32 then s.placeKey (tableFormat w) (BitVec.ofNat 5 w) else s

end Sys2Proof.Machine
end

