-- ==== Sys2Proof/Machine/Program.lean ====
section
/-! DEFINITION. Program: the host's side of 30_encoding.md R70 and 60_exceptions.md R177. A program's text, its run-length
encoding, loading it after boot, and running it to its end tick. -/

namespace Sys2Proof.Machine

/-- Append one character to the last piece, or start a new piece at the separator. -/
def splitStep (sep : Char) (c : Char) (acc : List (List Char)) : List (List Char) :=
  if c = sep then [] :: acc
  else match acc with
    | [] => [[c]]
    | p :: ps => (c :: p) :: ps

/-- The pieces of a text between separators. -/
def splitOnChar (sep : Char) (cs : List Char) : List (List Char) := cs.foldr (splitStep sep) [[]]

/-- A line without its comment, which runs from `;` to its end (30_encoding.md R70). -/
def stripComment (cs : List Char) : List Char := cs.takeWhile (fun c => c ≠ ';')

/-- A decimal number of at least one digit. DESIGN CHOICE (log 11), safe: leading zeros are allowed, as R70 and R177 do not say
how a number is written. -/
def parseNat (cs : List Char) : Option Nat :=
  if cs.isEmpty || !cs.all (fun c => '0' ≤ c ∧ c ≤ '9') then none
  else some (cs.foldl (fun n c => 10 * n + (c.toNat - 48)) 0)

/-- `<name>=<number>` (30_encoding.md R70 writes `B=<0|1>` and `T=<0|1>`). DESIGN CHOICE (log 11), safe: the value may be written
with leading zeros, so `B=01` reads as `B=1` and `T=000` as `T=0`; a value above 1 is read here and refused by the loader
(`ProgramLine.wf`). -/
def parseField (name : Char) (cs : List Char) : Option Nat :=
  match cs with
  | a :: b :: ds => if a = name ∧ b = '=' then parseNat ds else none
  | _ => none

/-- The words of a line: its pieces between blanks, tabs and carriage returns. -/
def lineWords (cs : List Char) : List (List Char) :=
  (splitOnChar ' ' (cs.map fun c => if c = '\t' ∨ c = '\r' then ' ' else c)).filter (fun w => !w.isEmpty)

/-- One line `<count> B=<button> T=<trigger>`, a comment allowed after it (30_encoding.md R70). -/
def parseLine (cs : List Char) : Option ProgramLine :=
  match lineWords cs with
  | [n, b, t] =>
    match parseNat n, parseField 'B' b, parseField 'T' t with
    | some n, some b, some t => some ⟨n, b, t⟩
    | _, _, _ => none
  | _ => none

/-- A program's text: its lines in order, lines that are empty but for a comment skipped (30_encoding.md R70; log 11). -/
def parseProgram (cs : List Char) : Option (List ProgramLine) :=
  (((splitOnChar '\n' cs).map stripComment).filter (fun l => !(lineWords l).isEmpty)).mapM parseLine

/-- The encoding of a line: `count x w` with `w = {buttonIn, triggerIn}` (30_encoding.md R70). -/
def encodeLine (l : ProgramLine) : EncodedRun := ⟨l.count, 2 * l.button + l.trigger⟩

/-- The encoding of a program (30_encoding.md R70). -/
def encodeProgram (ls : List ProgramLine) : List EncodedRun := ls.map encodeLine

/-- A checked run as the machine holds it. -/
def EncodedRun.toInputRun (r : EncodedRun) : InputRun := ⟨r.count, BitVec.ofNat 2 r.word⟩

/-- Load an encoded program: a word outside 0 to 3 or a count below 1 refuses it whole (60_exceptions.md R177). -/
def loadEncoded (rs : List EncodedRun) (s : State) : Host.Outcome State Fault Refusal :=
  if rs.all EncodedRun.wf then .next (s.loadSchedule (rs.map EncodedRun.toInputRun)) else .refused .illegalProgram

/-- Load a program of lines (30_encoding.md R70, 60_exceptions.md R177). -/
def loadProgram (ls : List ProgramLine) (s : State) : Host.Outcome State Fault Refusal :=
  if ls.all ProgramLine.wf then loadEncoded (encodeProgram ls) s else .refused .illegalProgram

/-- Load a program's text (30_encoding.md R70, 60_exceptions.md R177). -/
def loadText (cs : List Char) (s : State) : Host.Outcome State Fault Refusal :=
  match parseProgram cs with
  | some ls => loadProgram ls s
  | none => .refused .illegalProgram

/-- The state after `k` ticks. -/
def runTicks : Nat → State → Host.Outcome State Fault Refusal
  | 0, s => .next s
  | k + 1, s => andThen (step s) (runTicks k)

/-- The output values over the next `k` ticks, as far as the machine runs (30_encoding.md R70). -/
def outputTrace : Nat → State → List Outputs
  | 0, _ => []
  | k + 1, s =>
    s.outputs :: match step s with
      | .next t => outputTrace k t
      | .fault _ => []
      | .refused _ => []

/-- A program's run (30_encoding.md R70, 70_reset_and_hazards.md R184): boot, load, and `S(T_end)`. -/
def runProgram (clk : Rat) (ls : List ProgramLine) (tEnd : Nat) : Host.Outcome State Fault Refusal :=
  andThen (boot clk) fun s => andThen (loadProgram ls s) (runTicks tEnd)

end Sys2Proof.Machine
end

