-- ==== Sys2Proof/Safety.lean ====
section
/-! DEFINITION. Safety: the states the block can step from, the invariant of 10_state.md R39, what a format owns, and what a
safe run is. -/

namespace Sys2Proof.Machine

/-- A state the block can step from: a legal configuration (00_scope.md R8), no unreachable register value
(30_encoding.md R67) and a legal program (60_exceptions.md R177). -/
abbrev State.Legal (s : State) : Prop :=
  Config.Legal s.clkHz ∧ s.tbCount < s.halfBit ∧ s.bitCounter.toNat ≤ 16 ∧ ∀ r ∈ s.schedule, 1 ≤ r.count

/-- The relations of 10_state.md R39 that hold in every reachable state, with the one that makes them inductive: no bit is
counted before the data starts (log 10). -/
abbrev State.Coherent (s : State) : Prop :=
  s.Legal ∧
  s.encStopPend = false ∧
  (s.ctlState = .start → s.encEn = true) ∧
  (s.ctlState = .idle → 1 ≤ s.tick → s.encEn = true) ∧
  (s.ctlState ≠ .transmit → s.bitCounter = 0) ∧
  (s.ctlState = .idle ∨ s.ctlState = .start → s.encState = .idle) ∧
  (s.ctlState = .stop ↔ s.encState = .stopBit) ∧
  (s.encState = .idle ∨ s.encState = .stopBit ∨ s.ctlState = .transmit) ∧
  (s.modePending = true → s.mode = .continuous) ∧
  (s.encState = .waitStart ∨ s.encState = .startBit → s.bitCounter = 0)

/-- The closed form of the two free-running time references from reset (40_timebase.md R77, 42_button_debouncer.md R100): they
depend on the tick number alone. -/
abbrev State.InPhase (s : State) : Prop :=
  s.tbCount = s.tick % s.halfBit ∧ s.tbClk = ((s.tick / s.halfBit) % 2 == 1) ∧ s.dbCount.toNat = s.tick % 256

/-- `t` and `u` agree on the registers that format `f` owns (30_encoding.md R65). -/
def State.agreeOn (f : Format) (t u : State) : Prop :=
  match f with
  | .tb => t.tbCount = u.tbCount ∧ t.tbClk = u.tbClk
  | .enc => t.encState = u.encState ∧ t.encBit = u.encBit ∧ t.encClkDly = u.encClkDly ∧ t.encStopPend = u.encStopPend
  | .db => t.dbCount = u.dbCount ∧ t.dbReg = u.dbReg
  | .trg => t.trgCount = u.trgCount
  | .ctl => t.ctlState = u.ctlState ∧ t.bitCounter = u.bitCounter
  | .en => t.encEn = u.encEn
  | .st => t.starting = u.starting
  | .mode => t.mode = u.mode ∧ t.modePending = u.modePending

/-- The seventeen registers of `t` and `u` are equal, whatever the model's own fields are. -/
def State.sameRegisters (t u : State) : Prop :=
  t.tbCount = u.tbCount ∧ t.tbClk = u.tbClk ∧ t.encState = u.encState ∧ t.encBit = u.encBit ∧
  t.encClkDly = u.encClkDly ∧ t.encStopPend = u.encStopPend ∧ t.dbCount = u.dbCount ∧ t.dbReg = u.dbReg ∧
  t.trgCount = u.trgCount ∧ t.ctlState = u.ctlState ∧ t.bitCounter = u.bitCounter ∧ t.mode = u.mode ∧
  t.modePending = u.modePending ∧ t.encEn = u.encEn ∧ t.starting = u.starting ∧ t.btnPrev = u.btnPrev ∧
  t.outPrev = u.outPrev

/-- The encoder is enabled on the tick `k` ticks ahead; false where the machine has stopped by then. -/
def State.enabledAfter (s : State) (k : Nat) : Bool :=
  match runTicks k s with
  | .next u => u.encEn
  | .fault _ => false
  | .refused _ => false

/-- The level of the line on the tick at offset `d` (0 to 2N-1) of a symbol whose first half is `level`
(41_manchester_encoder.md R91): one tick of the old half, then `N` ticks of `level`, then the other level. -/
def symbolLevel (n d : Nat) (level : Bool) : Bool := if 1 ≤ d ∧ d ≤ n then level else !level

/-- The level of the line `k` ticks after the first IDLE tick of a continuous frame period (44_controller.md R147): one idle
symbol, the start symbol, the sixteen payload bits, least significant first, the stop symbol. -/
def frameLevel (n k : Nat) : Bool :=
  let m := k / (2 * n)
  if m = 0 then false
  else if m = 1 then symbolLevel n (k % (2 * n)) true
  else if m ≤ 17 then symbolLevel n (k % (2 * n)) (Config.payload.getLsbD (m - 2))
  else false

/-- The first IDLE tick of a continuous frame period, with the button at rest (44_controller.md R147): the tick after the
boundary that ended the stop symbol. -/
abbrev State.FrameStart (s : State) : Prop :=
  s.Legal ∧ s.mode = .continuous ∧ s.modePending = false ∧ s.encEn = true ∧ s.ctlState = .idle ∧ s.encState = .idle ∧
  s.bitCounter = 0 ∧ s.encStopPend = false ∧ s.tbCount = 0 ∧ s.tbClk = true ∧ s.dbReg = 0 ∧ s.btnPrev = false

/-- A safe run of `k` ticks from `s`: it neither faults nor is refused, and ends in a coherent state. -/
def State.SafeFor (k : Nat) (s : State) : Prop := ∃ t, runTicks k s = .next t ∧ t.Coherent

end Sys2Proof.Machine
end

