-- ==== Sys2Proof/Certificates/Slice0/Obligations.lean ====
section
/-! DEFINITION. Obligations: the statements for the provers, each from numbered rules of spec/. `S(t)` is the state `s`, `S(t+1)` the
state `t` that `step s` answers; the inputs of the tick are what `s.buttonIn` and `s.triggerIn` read. Equations of the form
`exec i s = .next (record update)` state an operation's result, its frame and its completion at once. -/

open Sys2Proof Sys2Proof.Machine

/-! ## Configuration and reset -/

/-- R8. A configuration boots exactly when `N >= 2`; `N = floor(CLK_HZ / 230400)`; the legal ones are `CLK_HZ >= 460800`; 12 MHz
gives 52. -/
def Obligations.LegalConfigurations : Prop :=
  (∀ c : Nat, Config.halfBit c = c / 230400) ∧
  (∀ c : Nat, 0 < c → ((∃ t, boot (c : Rat) = .next t) ↔ 2 ≤ Config.halfBit c)) ∧
  (∀ c : Nat, 0 < c → ((∃ t, boot (c : Rat) = .next t) ↔ 460800 ≤ c)) ∧
  Config.halfBit 12000000 = 52

/-- R161 and R162. A `CLK_HZ` that is not a positive integer is ConfigError cause 2, tested first; a positive integer with
`N < 2` is cause 1, which records `CLK_HZ` and `N`; every other boots to `S(0)`; and a machine that boots never raises it. -/
def Obligations.ConfigErrorBeforeTickZero : Prop :=
  (∀ clk : Rat, (¬ ∃ c : Nat, 0 < c ∧ clk = c) → boot clk = .fault (.clkNotPositiveInteger clk)) ∧
  (∀ c : Nat, 0 < c → c < 460800 → boot (c : Rat) = .fault (.halfBitTooSmall c (c / 230400))) ∧
  (∀ c : Nat, 460800 ≤ c → boot (c : Rat) = .next (State.resetAt c)) ∧
  (∀ clk, (Fault.clkNotPositiveInteger clk).causeCode = 2 ∧
    (Fault.clkNotPositiveInteger clk).causeName = "CLK_NOT_POSITIVE_INTEGER") ∧
  (∀ c n, (Fault.halfBitTooSmall c n).causeCode = 1 ∧ (Fault.halfBitTooSmall c n).causeName = "HALF_BIT_TOO_SMALL") ∧
  (∀ s : State, s.Legal → ∀ k e, runTicks k s ≠ .fault e)

/-- R180. Every register of the reset state is 0, IDLE or TRIGGERED, at every configuration; the machine's own reset state is one
of them, at the clock the model chose for it (log 2). -/
def Obligations.ResetState : Prop :=
  ∀ c : Nat, ∀ s : State, s = State.resetAt c ∨ s = State.reset →
    s.tbCount = 0 ∧ s.tbClk = false ∧ s.encState = .idle ∧ s.encBit = false ∧ s.encClkDly = false ∧
    s.encStopPend = false ∧ s.dbCount = 0 ∧ s.dbReg = 0b000 ∧ s.trgCount = 0 ∧ s.ctlState = .idle ∧ s.bitCounter = 0 ∧
    s.mode = .triggered ∧ s.modePending = false ∧ s.encEn = false ∧ s.starting = false ∧ s.btnPrev = false ∧
    s.outPrev = false

/-- R181. On tick 0, for every legal configuration and all inputs, every signal but `bitIn` and `enCond` is 0 and the outputs are
0; the encoder is frozen on it and enabled on tick 1; and a run that starts with `encEn = 1` on tick 0 is in the same state
from tick 1 on. -/
def Obligations.TickZero : Prop :=
  ∀ c : Nat, Config.Legal c → ∀ l : List InputRun, (∀ r ∈ l, 1 ≤ r.count) → ∀ s : State,
    s = (State.resetAt c).loadSchedule l →
    s.hbc = false ∧ s.tbCC = false ∧ s.encCC = false ∧ s.encHBC = false ∧ s.dbSample = false ∧ s.dbOut = false ∧
    s.trgFall = false ∧ s.trigger = false ∧ s.btnFall = false ∧ s.outRise = false ∧ s.running = false ∧
    s.encStart = false ∧ s.encStop = false ∧ s.switchReq = false ∧ s.bitIn = true ∧ s.enCond = true ∧
    s.outputs = ⟨false, false, false⟩ ∧ s.encEn = false ∧ decode .enc (s.key .enc) = .ok .encFrozen ∧
    decode .en (s.key .en) = .ok .enSet ∧ (∃ t, step s = .next t ∧ t.encEn = true ∧ t.encState = .idle) ∧
    ∀ k, runTicks (k + 1) { s with encEn := true } = runTicks (k + 1) s

/-! ## Keys, operations and the tick -/

/-- R66 and R67. Decode and encode agree: every operation, with every value of the bits its row leaves open that is not a
reserved code, decodes from its key; a decoded key encodes back bit for bit; and in every state each format's key decodes to
the one operation of the format whose row it matches. -/
def Obligations.DecodeEncodeAgree : Prop :=
  (∀ (i : Instr) (free : Key), i.admits free = true → decode i.format (encode i free) = .ok i) ∧
  (∀ (f : Format) (k : Key) (i : Instr), decode f k = .ok i → i.format = f ∧ i.admits k = true ∧ encode i k = k) ∧
  (∀ (s : State) (f : Format), ∃ i, decode f (s.key f) = .ok i ∧
    ∀ j : Instr, j.format = f → j.matchesKey (s.key f) = true → j = i)

/-- Keys written out from the formats of R57 to R64 decode to the operations they stand for, at least one of each family. -/
def Obligations.WrittenKeysDecode : Prop :=
  decode .tb 0b01 = .ok .tbCount ∧ decode .tb 0b11 = .ok .tbHalf ∧ decode .tb 0b10 = .ok .tbCycle ∧
  decode .enc 0b0011 = .ok .encFrozen ∧ decode .enc 0b1011 = .ok .encBitEncode ∧ decode .enc 0b1100 = .ok .encStopBit ∧
  decode .db 0b01111 = .ok .dbWait ∧ decode .db 0b10110 = .ok .dbR0xx0 ∧ decode .db 0b10111 = .ok .dbR0111 ∧
  decode .db 0b11000 = .ok .dbR1000 ∧ decode .trg 0b11100 = .ok .trgHigh ∧ decode .trg 0b01100 = .ok .trgLow ∧
  decode .ctl 0b10 = .ok .ctlTransmit ∧ decode .en 0b11 = .ok .enSet ∧ decode .en 0b01 = .ok .enClear ∧
  decode .st 0b10 = .ok .stSet ∧ decode .st 0b01 = .ok .stClear ∧ decode .mode 0b011 = .ok .modeT2C ∧
  decode .mode 0b111 = .ok .modeC2T ∧ decode .mode 0b110 = .ok .modeDefer ∧ decode .mode 0b101 = .ok .modeHold

/-- R67 and R90. The F_ENC keys whose low three bits are 0b101, 0b110 or 0b111 are refused by name; no other key of a format is;
and no key of a format is left without a row. -/
def Obligations.ReservedKeysRefused : Prop :=
  (∀ k : Key, k.fits .enc = true →
    (decode .enc k = .error .reservedKey ↔ k ∈ ([0b0101, 0b0110, 0b0111, 0b1101, 0b1110, 0b1111] : List Key))) ∧
  (∀ (f : Format) (k : Key), f ≠ .enc → decode f k ≠ .error .reservedKey) ∧
  (∀ (f : Format) (k : Key), decode f k ≠ .error .noRow) ∧
  (∀ (f : Format) (k : Key), decode f k = .error .keyTooWide ↔ k.fits f = false)

/-- R113. The default row of the debounce table is never selected: every sample key has its row. -/
def Obligations.DebounceTableTotal : Prop :=
  (∀ k : Key, decode .db k = .ok .dbR0xx0 ↔ k ∈ ([0b10000, 0b10010, 0b10100, 0b10110] : List Key)) ∧
  (∀ k : Key, decode .db k = .ok .dbR1xx1 ↔ k ∈ ([0b11001, 0b11011, 0b11101, 0b11111] : List Key)) ∧
  (∀ k : Key, (decode .db k = .ok .dbR0001 ↔ k = 0b10001) ∧ (decode .db k = .ok .dbR0011 ↔ k = 0b10011) ∧
    (decode .db k = .ok .dbR0101 ↔ k = 0b10101) ∧ (decode .db k = .ok .dbR0111 ↔ k = 0b10111) ∧
    (decode .db k = .ok .dbR1000 ↔ k = 0b11000) ∧ (decode .db k = .ok .dbR1010 ↔ k = 0b11010) ∧
    (decode .db k = .ok .dbR1100 ↔ k = 0b11100) ∧ (decode .db k = .ok .dbR1110 ↔ k = 0b11110)) ∧
  (∀ k : Key, ∃ i, decode .db k = .ok i)

/-- R65. A step is one tick: in every legal state each format's key decodes to an operation, `exec` of it on `S(t)` answers a
next state, the registers the format owns are in `S(t+1)` as that state has them, the edge registers are written by R135, and
around them only the model's own fields move: the tick number and the schedule by one tick, the configuration not at all
(the model's choices of logs 1, 3, 4 and 5). -/
def Obligations.StepRunsSelectedOperations : Prop :=
  ∀ s : State, s.Legal → ∃ t, step s = .next t ∧
    (∀ f : Format, ∃ i u, decode f (s.key f) = .ok i ∧ exec i s = .next u ∧ State.agreeOn f t u) ∧
    t.btnPrev = s.dbOut ∧ t.outPrev = s.encOut ∧
    t.clkHz = s.clkHz ∧ t.tick = s.tick + 1 ∧ t.schedule = nextSchedule s.schedule

/-- R65. The operations of the eight formats never write the same register: an operation leaves what every other format owns, the
edge registers and the model's own fields as they are. -/
def Obligations.OperationsWriteTheirFormatOnly : Prop :=
  ∀ (i : Instr) (s : State), ∃ u, exec i s = .next u ∧ (∀ f : Format, f ≠ i.format → State.agreeOn f u s) ∧
    u.btnPrev = s.btnPrev ∧ u.outPrev = s.outPrev ∧ u.clkHz = s.clkHz ∧ u.tick = s.tick ∧ u.schedule = s.schedule

/-! ## What each operation does -/

/-- R72 to R74. Result and frame of the Timebase's operations. -/
def Obligations.TimebaseOperations : Prop :=
  ∀ s : State,
    exec .tbCount s = .next { s with tbCount := s.tbCount + 1 } ∧
    exec .tbHalf s = .next { s with tbCount := 0, tbClk := false } ∧
    exec .tbCycle s = .next { s with tbCount := 0, tbClk := true }

/-- R83 to R89. Result and frame of the encoder's operations: ENC.FROZEN writes nothing, every other also makes the two writes
of R84. -/
def Obligations.EncoderOperations : Prop :=
  ∀ (s : State) (pend : Bool), pend = (if s.tbCC then false else s.encStopPend || s.encStop) →
    exec .encFrozen s = .next s ∧
    exec .encIdle s = .next { s with
      encState := if s.ctlState = .start then .waitStart else s.encState, encClkDly := s.tbClk, encStopPend := pend } ∧
    exec .encWaitStart s = .next { s with
      encState := if s.tbCC then .startBit else s.encState, encClkDly := s.tbClk, encStopPend := pend } ∧
    exec .encStartBit s = .next { s with
      encState := if s.tbCC then .bitEncode else s.encState, encBit := if s.tbCC then s.bitIn else s.encBit,
      encClkDly := s.tbClk, encStopPend := pend } ∧
    exec .encBitEncode s = .next { s with
      encState := if s.tbCC && (s.encStop || s.encStopPend) then .stopBit else s.encState,
      encBit := if s.tbCC then s.bitIn else s.encBit, encClkDly := s.tbClk, encStopPend := pend } ∧
    exec .encStopBit s = .next { s with
      encState := if s.tbCC then .idle else s.encState, encClkDly := s.tbClk, encStopPend := pend }

/-- R100 to R112. Result and frame of the debouncer's operations: each advances the counter modulo 256, DB.WAIT keeps the
register, each table row writes its constant. -/
def Obligations.DebouncerOperations : Prop :=
  ∀ s : State,
    exec .dbWait s = .next { s with dbCount := s.dbCount + 1 } ∧
    exec .dbR0xx0 s = .next { s with dbCount := s.dbCount + 1, dbReg := 0b000 } ∧
    exec .dbR0001 s = .next { s with dbCount := s.dbCount + 1, dbReg := 0b001 } ∧
    exec .dbR0011 s = .next { s with dbCount := s.dbCount + 1, dbReg := 0b010 } ∧
    exec .dbR0101 s = .next { s with dbCount := s.dbCount + 1, dbReg := 0b011 } ∧
    exec .dbR0111 s = .next { s with dbCount := s.dbCount + 1, dbReg := 0b111 } ∧
    exec .dbR1xx1 s = .next { s with dbCount := s.dbCount + 1, dbReg := 0b111 } ∧
    exec .dbR1110 s = .next { s with dbCount := s.dbCount + 1, dbReg := 0b110 } ∧
    exec .dbR1100 s = .next { s with dbCount := s.dbCount + 1, dbReg := 0b101 } ∧
    exec .dbR1010 s = .next { s with dbCount := s.dbCount + 1, dbReg := 0b100 } ∧
    exec .dbR1000 s = .next { s with dbCount := s.dbCount + 1, dbReg := 0b000 } ∧
    (s.dbCount + 1).toNat = (s.dbCount.toNat + 1) % 256

/-- R120 and R121. Result and frame of the trigger detector's operations: count up and saturate at 15, or clear. -/
def Obligations.TriggerOperations : Prop :=
  ∀ s : State,
    (∃ u, exec .trgHigh s = .next u ∧ u = { s with trgCount := u.trgCount } ∧
      u.trgCount.toNat = min (s.trgCount.toNat + 1) 15) ∧
    exec .trgLow s = .next { s with trgCount := 0 }

/-- R131 to R134. Result and frame of the frame state machine's operations. -/
def Obligations.ControllerOperations : Prop :=
  ∀ s : State,
    exec .ctlIdle s = .next { s with
      ctlState := if s.trigger = true ∨ s.mode = .continuous then .start else s.ctlState } ∧
    exec .ctlStart s = .next { s with ctlState := .transmit, bitCounter := 0 } ∧
    (s.encCC = false → exec .ctlTransmit s = .next s) ∧
    (s.encCC = true → s.bitCounter ≠ 16 → exec .ctlTransmit s = .next { s with bitCounter := s.bitCounter + 1 }) ∧
    (s.encCC = true → s.bitCounter = 16 → exec .ctlTransmit s = .next { s with ctlState := .stop, bitCounter := 0 }) ∧
    exec .ctlStop s = .next { s with ctlState := if s.encCC then .idle else s.ctlState }

/-- R136 to R141. Result and frame of the enable flag's and the start latch's operations. -/
def Obligations.EnableAndStartLatchOperations : Prop :=
  ∀ s : State,
    exec .enSet s = .next { s with encEn := true } ∧ exec .enClear s = .next { s with encEn := false } ∧
    exec .enHold s = .next s ∧
    exec .stSet s = .next { s with starting := true } ∧ exec .stClear s = .next { s with starting := false } ∧
    exec .stHold s = .next s

/-- R142 to R145. Result and frame of the mode register's operations. -/
def Obligations.ModeOperations : Prop :=
  ∀ s : State,
    exec .modeHold s = .next s ∧
    exec .modeT2C s = .next { s with mode := .continuous, modePending := false } ∧
    exec .modeC2T s = .next { s with mode := .triggered, modePending := false } ∧
    exec .modeDefer s = .next { s with modePending := true }

/-! ## Signals and outputs -/

/-- R81 and R146. When each output is 1. -/
def Obligations.OutputLevels : Prop :=
  ∀ s : State,
    (s.outputs.swoOut = true ↔
      (s.encState = .startBit ∧ s.encClkDly = true) ∨ (s.encState = .bitEncode ∧ s.encBit = s.encClkDly)) ∧
    (s.outputs.ledRun = true ↔ (s.ctlState = .transmit ∨ s.ctlState = .stop) ∧ s.encEn = true) ∧
    (s.outputs.ledMode = true ↔ s.mode = .continuous)

/-- R18. The outputs are functions of the registers alone: no input of the tick and no field of the model's own reaches them. -/
def Obligations.OutputsReadRegistersOnly : Prop :=
  ∀ s u : State, s.sameRegisters u → s.outputs = u.outputs

/-- R130, R82 and R95. The pulses between the encoder and the controller: when each is 1, that `encStop` comes only with `encCC`
and `encCC` only on a cycle boundary. -/
def Obligations.EncoderControllerPulses : Prop :=
  ∀ s : State,
    (s.tbCC = true ↔ s.tbCount = s.halfBit - 1 ∧ s.tbClk = false) ∧
    (s.encCC = true ↔ s.encEn = true ∧ s.tbCC = true ∧ s.encState ≠ .idle ∧ s.encState ≠ .waitStart) ∧
    (s.encHBC = true ↔ s.encEn = true ∧ s.tbCount = s.halfBit - 1) ∧
    (s.encStart = true ↔ s.ctlState = .start) ∧
    (s.encStop = true ↔ s.ctlState = .transmit ∧ s.encCC = true ∧ s.bitCounter = 16) ∧
    (s.encStop = true → s.encCC = true) ∧ (s.encCC = true → s.tbCC = true)

/-- R45. The payload is 0x4101, low byte 0x01, high byte 0x41, offered bit 0 first; above index 15 `bitIn` is 0. -/
def Obligations.PayloadBitOrder : Prop :=
  Config.payload = 0x4101 ∧ Config.payload.extractLsb' 0 8 = 0x01 ∧ Config.payload.extractLsb' 8 8 = 0x41 ∧
  (List.range 16).map (fun i => payloadBit (BitVec.ofNat 5 i)) =
    [true, false, false, false, false, false, false, false, true, false, false, false, false, false, true, false] ∧
  (∀ s : State, s.bitCounter.toNat ≤ 15 → s.bitIn = Config.payload.getLsbD s.bitCounter.toNat) ∧
  (∀ s : State, 16 ≤ s.bitCounter.toNat → s.bitIn = false)

/-! ## Invariants of the tick -/

/-- R160. The block never stops: a legal state steps to a legal state, whatever the inputs, and so runs for any number of
ticks. -/
def Obligations.LegalStatesRunForever : Prop :=
  ∀ s : State, s.Legal → (∃ t, step s = .next t ∧ t.Legal) ∧ ∀ k, ∃ t, runTicks k s = .next t ∧ t.Legal

/-- R39. The relations of the reachable states are kept by every step, from every state that meets them (with the one that makes
them inductive: `bitCounter` is 0 before the data starts, log 10). -/
def Obligations.CoherenceKept : Prop :=
  ∀ s t : State, s.Coherent → step s = .next t → t.Coherent

/-- R77 and R100. The timebase and the sample counter stay at the closed form of the tick number through every step, whatever the
encoder, the controller, the mode and the inputs do. -/
def Obligations.TimebasePhaseKept : Prop :=
  ∀ s t : State, s.Legal → s.InPhase → step s = .next t → t.InPhase

/-- R39 and R77. The reset state of every legal configuration, under every legal program, is coherent and in phase. -/
def Obligations.ResetCoherentInPhase : Prop :=
  ∀ c : Nat, Config.Legal c → ∀ l : List InputRun, (∀ r ∈ l, 1 ≤ r.count) →
    ((State.resetAt c).loadSchedule l).Coherent ∧ ((State.resetAt c).loadSchedule l).InPhase

/-- R39. `encEn = 1` while `ctlState = STOP` does NOT hold: a coherent state steps into STOP with the encoder frozen. -/
def Obligations.FrozenInStopOccurs : Prop :=
  ∃ s t : State, s.Coherent ∧ s.ctlState = .transmit ∧ step s = .next t ∧ t.Coherent ∧ t.ctlState = .stop ∧
    t.encState = .stopBit ∧ t.encEn = false ∧ t.mode = .triggered

/-- R6 and R40. The configuration, which the model holds in a field of its own (log 1), never changes while the block runs. -/
def Obligations.ConfigurationFixed : Prop :=
  ∀ (k : Nat) (s t : State), runTicks k s = .next t → t.clkHz = s.clkHz

/-! ## Timebase -/

/-- R76. The Timebase is never gated: on every tick of every legal state, whatever the rest of the state and the inputs, it counts
or wraps by its own two registers alone. -/
def Obligations.TimebaseNeverGated : Prop :=
  ∀ s : State, s.Legal → ∃ t, step s = .next t ∧
    (s.tbCount = s.halfBit - 1 → t.tbCount = 0 ∧ t.tbClk = !s.tbClk) ∧
    (s.tbCount ≠ s.halfBit - 1 → t.tbCount = s.tbCount + 1 ∧ t.tbClk = s.tbClk) ∧
    ∀ u v : State, u.Legal → u.clkHz = s.clkHz → u.tbCount = s.tbCount → u.tbClk = s.tbClk → step u = .next v →
      v.tbCount = t.tbCount ∧ v.tbClk = t.tbClk

/-- R77. From reset, under any inputs, the timebase on tick `t` in closed form: counter, clock bit, both pulses, the tick of each
wrapping operation, the boundaries `N - 1 + 2N k`, and the clock bit 1 in the first half of each bit period and 0 in the
second. -/
def Obligations.TimebaseClosedForm : Prop :=
  ∀ c : Nat, Config.Legal c → ∀ l : List InputRun, (∀ r ∈ l, 1 ≤ r.count) → ∀ n : Nat, n = Config.halfBit c →
    ∀ t : Nat, ∃ s, runTicks t ((State.resetAt c).loadSchedule l) = .next s ∧
      s.tbCount = t % n ∧ s.tbClk = ((t / n) % 2 == 1) ∧
      (s.hbc = true ↔ t % n = n - 1) ∧ (s.tbCC = true ↔ t % (2 * n) = n - 1) ∧
      (decode .tb (s.key .tb) = .ok .tbHalf ↔ t % (2 * n) = 2 * n - 1) ∧
      (decode .tb (s.key .tb) = .ok .tbCycle ↔ t % (2 * n) = n - 1) ∧
      (s.tbCC = true ↔ ∃ k, t = n - 1 + 2 * n * k) ∧
      (∀ k j, t = n - 1 + 2 * n * k + j → 1 ≤ j → j ≤ 2 * n → s.tbClk = decide (j ≤ n))

/-! ## Encoder -/

/-- R83 and R97. While frozen the encoder writes none of its registers, its output holds, its pulses are 0, the controller counts
no bit and stays in TRANSMIT or STOP, and the Timebase and the debouncer go on. -/
def Obligations.FrozenEncoderHolds : Prop :=
  ∀ s : State, s.Legal → s.encEn = false → s.encCC = false ∧ s.encHBC = false ∧ s.encStop = false ∧
    ∃ t, step s = .next t ∧ State.agreeOn .enc t s ∧ t.encOut = s.encOut ∧
      (s.ctlState = .transmit ∨ s.ctlState = .stop → t.ctlState = s.ctlState ∧ t.bitCounter = s.bitCounter) ∧
      t.tbCount ≠ s.tbCount ∧ t.dbCount = s.dbCount + 1

/-- R84 to R89. An enabled encoder's step, by its state: the delayed clock, the stop record, the start, the boundary, the latched
bit, the stop. -/
def Obligations.EnabledEncoderStep : Prop :=
  ∀ s : State, s.Legal → s.encEn = true → ∃ t, step s = .next t ∧ t.encClkDly = s.tbClk ∧
    (s.tbCC = true → t.encStopPend = false) ∧ (s.tbCC = false → t.encStopPend = (s.encStopPend || s.encStop)) ∧
    (s.encState = .idle → t.encBit = s.encBit ∧ t.encState = if s.ctlState = .start then .waitStart else .idle) ∧
    (s.encState = .waitStart → t.encBit = s.encBit ∧ t.encState = if s.tbCC then .startBit else .waitStart) ∧
    (s.encState = .startBit → t.encBit = (if s.tbCC then s.bitIn else s.encBit) ∧
      t.encState = if s.tbCC then .bitEncode else .startBit) ∧
    (s.encState = .bitEncode → t.encBit = (if s.tbCC then s.bitIn else s.encBit) ∧
      t.encState = if s.tbCC = true ∧ (s.encStop = true ∨ s.encStopPend = true) then .stopBit else .bitEncode) ∧
    (s.encState = .stopBit → t.encBit = s.encBit ∧ t.encState = if s.tbCC then .idle else .stopBit)

/-- R95. The stop latch is never set: from a state where it is 0, every step leaves it 0. -/
def Obligations.StopLatchNeverSet : Prop :=
  ∀ s t : State, s.encStopPend = false → step s = .next t → t.encStopPend = false

/-- R91. Symbol waveform: if `s` is a cycle boundary `B` and the encoder is enabled on every tick from `B` to `B+2N`, the state
entered at `B` is visible on ticks `B+1` to `B+2N`, and on tick `B+d` the line is as the table of R91 says. -/
def Obligations.SymbolWaveform : Prop :=
  ∀ s : State, s.Legal → s.tbCC = true → (∀ j, j ≤ 2 * s.halfBit → s.enabledAfter j = true) →
    ∃ u, step s = .next u ∧ ∀ d, 1 ≤ d → d ≤ 2 * s.halfBit → ∃ t, runTicks d s = .next t ∧
      (u.encState = .startBit → t.encState = .startBit ∧ t.swoOut = symbolLevel s.halfBit (d - 1) true) ∧
      (u.encState = .bitEncode → t.encState = .bitEncode ∧ t.encBit = u.encBit ∧
        t.swoOut = symbolLevel s.halfBit (d - 1) u.encBit) ∧
      (u.encState = .stopBit → t.encState = .stopBit ∧ t.swoOut = false) ∧
      (u.encState = .idle ∨ u.encState = .waitStart → (t.encState = .idle ∨ t.encState = .waitStart) ∧ t.swoOut = false)

/-! ## Debouncer -/

/-- R100 to R112. The debouncer's step: the counter advances modulo 256, off a sample tick the register holds whatever the button,
on a sample tick it goes as the sixteen rows of the table say. -/
def Obligations.DebounceStep : Prop :=
  ∀ s : State, s.Legal → ∃ t, step s = .next t ∧ t.dbCount.toNat = (s.dbCount.toNat + 1) % 256 ∧
    (s.dbCount.toNat % 128 ≠ 127 → t.dbReg = s.dbReg) ∧
    (s.dbCount.toNat % 128 = 127 → s.buttonIn = true →
      (s.dbReg = 0 → t.dbReg = 1) ∧ (s.dbReg = 1 → t.dbReg = 2) ∧ (s.dbReg = 2 → t.dbReg = 3) ∧
      (s.dbReg = 3 → t.dbReg = 7) ∧ (4 ≤ s.dbReg.toNat → t.dbReg = 7)) ∧
    (s.dbCount.toNat % 128 = 127 → s.buttonIn = false →
      (s.dbReg = 7 → t.dbReg = 6) ∧ (s.dbReg = 6 → t.dbReg = 5) ∧ (s.dbReg = 5 → t.dbReg = 4) ∧
      (s.dbReg = 4 → t.dbReg = 0) ∧ (s.dbReg.toNat ≤ 3 → t.dbReg = 0))

/-- R114. `dbOut` is bit 2 of the register, and it changes only on the tick after a sample tick, upwards only by DB.R0111 and
downwards only by DB.R1000. -/
def Obligations.DebouncedValueChanges : Prop :=
  (∀ s : State, s.dbOut = s.dbReg.getLsbD 2) ∧
  ∀ s t : State, step s = .next t → t.dbOut ≠ s.dbOut → s.dbSample = true ∧
    ((t.dbOut = true ∧ decode .db (s.key .db) = .ok .dbR0111) ∨ (t.dbOut = false ∧ decode .db (s.key .db) = .ok .dbR1000))

/-- R115 and R116. From a stable register, at a sample tick, a button that holds the other value `b` for four samples (385 ticks)
flips `dbOut` on tick 385 and not before, whatever else the block does. -/
def Obligations.FourSamplesFlipTheOutput : Prop :=
  ∀ (s : State) (b : Bool), s.Legal → s.dbCount.toNat % 128 = 127 → s.dbReg = (if b then 0b000 else 0b111) →
    (∀ k, k ≤ 384 → s.buttonAfter k = b) →
    ∀ k, k ≤ 385 → ∃ t, runTicks k s = .next t ∧ t.dbOut = (if k = 385 then b else !b)

/-- R117. The debouncer reads no other component: two legal states with the same counter, register and button take the same step
there. -/
def Obligations.DebouncerIndependent : Prop :=
  ∀ s u t v : State, s.dbCount = u.dbCount → s.dbReg = u.dbReg → (s.dbSample = true → s.buttonIn = u.buttonIn) →
    step s = .next t → step u = .next v → t.dbCount = v.dbCount ∧ t.dbReg = v.dbReg

/-! ## Trigger detector -/

/-- R120 to R122. The trigger counter after a step is nonzero exactly when the input was high on the tick; the trigger signal is 1
exactly when the input is low and the counter reads 11 to 13. -/
def Obligations.TriggerCounterStep : Prop :=
  ∀ s : State, (s.trigger = true ↔ s.triggerIn = false ∧ 11 ≤ s.trgCount.toNat ∧ s.trgCount.toNat ≤ 13) ∧
    (s.Legal → ∃ t, step s = .next t ∧ (s.triggerIn = true → t.trgCount.toNat = min (s.trgCount.toNat + 1) 15) ∧
      (s.triggerIn = false → t.trgCount = 0) ∧ (t.trgCount ≠ 0 ↔ s.triggerIn = true))

/-- R123. A pulse of `w` high ticks after a low one, then low, gives a counter of min(w, 15) on its falling tick, a trigger there
exactly when `11 <= w <= 13`, and none while it is high. -/
def Obligations.TriggerAcceptanceWindow : Prop :=
  ∀ (s : State) (w : Nat), s.Legal → s.trgCount = 0 → (∀ k, k < w → s.triggerAfter k = true) →
    s.triggerAfter w = false →
    (∃ t, runTicks w s = .next t ∧ t.trgCount.toNat = min w 15 ∧ (t.trigger = true ↔ 11 ≤ w ∧ w ≤ 13)) ∧
    ∀ k, k < w → ∃ t, runTicks k s = .next t ∧ t.trigger = false

/-! ## Controller -/

/-- R131 to R134. The frame state machine's step. -/
def Obligations.FrameMachineStep : Prop :=
  ∀ s : State, s.Legal → ∃ t, step s = .next t ∧
    (s.ctlState = .idle → t.bitCounter = s.bitCounter ∧
      t.ctlState = if s.trigger = true ∨ s.mode = .continuous then .start else .idle) ∧
    (s.ctlState = .start → t.ctlState = .transmit ∧ t.bitCounter = 0) ∧
    (s.ctlState = .transmit → s.encCC = false → t.ctlState = .transmit ∧ t.bitCounter = s.bitCounter) ∧
    (s.ctlState = .transmit → s.encCC = true → s.bitCounter ≠ 16 →
      t.ctlState = .transmit ∧ t.bitCounter.toNat = s.bitCounter.toNat + 1) ∧
    (s.ctlState = .transmit → s.encCC = true → s.bitCounter = 16 → t.ctlState = .stop ∧ t.bitCounter = 0) ∧
    (s.ctlState = .stop → t.bitCounter = s.bitCounter ∧ t.ctlState = if s.encCC then .idle else .stop)

/-- R132. START: the encoder's start is asserted, the block is not running, the counter is already 0 and the encoder enabled; one
tick later the controller is in TRANSMIT with the counter 0, the start pulse has been taken and the start latch set. -/
def Obligations.StartBeginsTheFrame : Prop :=
  ∀ s : State, s.Coherent → s.ctlState = .start → s.encStart = true ∧ s.running = false ∧ s.encEn = true ∧
    s.bitCounter = 0 ∧ ∃ t, step s = .next t ∧ t.ctlState = .transmit ∧ t.bitCounter = 0 ∧ t.encState = .waitStart ∧
      t.starting = true

/-- R133, R87 and R88. On the cycle pulse of TRANSMIT in a coherent state, with the counter at `i` up to 15, payload bit `i` is
latched and the counter goes to `i + 1`; at 16 the controller enters STOP and the encoder STOP_BIT on the same tick, and the
counter is cleared. -/
def Obligations.CyclePulseLatchesPayloadBit : Prop :=
  ∀ s : State, s.Coherent → s.ctlState = .transmit → s.encCC = true → ∃ t, step s = .next t ∧
    (s.bitCounter.toNat ≤ 15 → t.encState = .bitEncode ∧ t.encBit = Config.payload.getLsbD s.bitCounter.toNat ∧
      t.bitCounter.toNat = s.bitCounter.toNat + 1 ∧ t.ctlState = .transmit) ∧
    (s.bitCounter = 16 → t.encState = .stopBit ∧ t.ctlState = .stop ∧ t.bitCounter = 0 ∧ t.swoOut = false)

/-- R135 and R151. The edge registers hold the previous tick's values, so each edge is seen on the first tick of the new level. -/
def Obligations.EdgesSeenOnFirstTick : Prop :=
  ∀ s : State, s.Legal → ∃ t, step s = .next t ∧ t.btnPrev = s.dbOut ∧ t.outPrev = s.encOut ∧
    (t.btnFall = true ↔ s.dbOut = true ∧ t.dbOut = false) ∧ (t.outRise = true ↔ s.encOut = false ∧ t.encOut = true)

/-- R136 to R138 and R52. The enable flag after a step: an enable condition wins, else a disable condition clears it, else it
holds. So an enabled encoder is frozen only in TRIGGERED mode, while running, by a rising edge that the start latch does not
mask and no accepted trigger meets. -/
def Obligations.EnablePriority : Prop :=
  ∀ s : State, s.Legal → ∃ t, step s = .next t ∧ (s.enCond = true → t.encEn = true) ∧
    (s.enCond = false → s.disCond = true → t.encEn = false) ∧
    (s.enCond = false → s.disCond = false → t.encEn = s.encEn) ∧
    (s.encEn = true → t.encEn = false → s.mode = .triggered ∧ s.running = true ∧ s.outRise = true ∧
      s.starting = false ∧ s.trigger = false)

/-- R139 to R141. The start latch after a step: set in START, cleared by the first rising edge while running, else held; and the
edge that clears it does not disable the encoder. -/
def Obligations.StartLatchStep : Prop :=
  ∀ s : State, s.Legal → ∃ t, step s = .next t ∧ (s.ctlState = .start → t.starting = true) ∧
    (s.running = true → s.outRise = true → t.starting = false) ∧
    (s.running = true → s.outRise = true → s.starting = true → s.encEn = true → t.encEn = true) ∧
    (s.ctlState ≠ .start → ¬ (s.running = true ∧ s.outRise = true) → t.starting = s.starting)

/-- R142 to R145. The mode register and its latch after a step; and the mode changes only on a request, to TRIGGERED only in STOP. -/
def Obligations.ModeRegisterStep : Prop :=
  ∀ s : State, s.Legal → ∃ t, step s = .next t ∧
    (s.btnFall = false → s.modePending = false → t.mode = s.mode ∧ t.modePending = false) ∧
    (s.btnFall = true ∨ s.modePending = true →
      (s.mode = .triggered → t.mode = .continuous ∧ t.modePending = false) ∧
      (s.mode = .continuous → s.ctlState = .stop → t.mode = .triggered ∧ t.modePending = false) ∧
      (s.mode = .continuous → s.ctlState ≠ .stop → t.mode = .continuous ∧ t.modePending = true))

/-- R143. A switch requested while TRIGGERED applies at once in every controller state, shows on `ledMode` on the next tick with the
latch clear, and enables a frozen encoder one tick later without a trigger. -/
def Obligations.SwitchToContinuousAtOnce : Prop :=
  ∀ s : State, s.Legal → s.mode = .triggered → s.switchReq = true →
    ∃ t, step s = .next t ∧ t.mode = .continuous ∧ t.modePending = false ∧ t.ledMode = true ∧ t.enCond = true ∧
      ∃ u, step t = .next u ∧ u.encEn = true

/-- R165. Simultaneous events: (a) a trigger beats a qualifying rise, (b) the start latch is never set and cleared at once, (d) a
trigger and a release in IDLE both act, (f) a release on the tick the controller leaves STOP applies as it reaches IDLE. -/
def Obligations.SimultaneousEvents : Prop :=
  ∀ s : State, s.Legal → ¬ (s.encStart = true ∧ s.stClear = true) ∧ ∃ t, step s = .next t ∧
    (s.trigger = true → s.disCond = true → t.encEn = true) ∧
    (s.ctlState = .idle → s.mode = .triggered → s.trigger = true → s.btnFall = true →
      t.ctlState = .start ∧ t.mode = .continuous) ∧
    (s.ctlState = .stop → s.mode = .continuous → s.encCC = true → s.btnFall = true →
      t.ctlState = .idle ∧ t.mode = .triggered ∧ t.modePending = false)

/-- R152. In CONTINUOUS mode the encoder is enabled from the next tick on, so `ledRun` shows the running frame. -/
def Obligations.ContinuousNeverFreezes : Prop :=
  ∀ s : State, s.Legal → s.mode = .continuous → ∃ t, step s = .next t ∧ t.encEn = true ∧
    (t.ledRun = true ↔ t.ctlState = .transmit ∨ t.ctlState = .stop)

/-- R147, R91 and R45. A continuous frame period: from its first IDLE tick, with the button at rest, the line is on every one of the
`38N` ticks as `frameLevel` says (an idle symbol, the start symbol, the sixteen bits of 0x4101 least significant first, the
stop symbol, each `2N` ticks with the one-tick delay of R91), and after `38N` ticks the next period starts. -/
def Obligations.ContinuousFramePeriod : Prop :=
  ∀ s : State, s.FrameStart → (∀ k, k < 38 * s.halfBit → s.buttonAfter k = false) →
    (∀ k, k < 38 * s.halfBit → ∃ t, runTicks k s = .next t ∧ t.swoOut = frameLevel s.halfBit k) ∧
    ∃ t, runTicks (38 * s.halfBit) s = .next t ∧ t.FrameStart

/-! ## Whole runs -/

/-- R183, read with R84 (log 14). From reset with both inputs low the block does nothing visible: on every tick the outputs are 0
and every register but `tbCount`, `tbClk`, `dbCount` and the delayed clock bit has its reset value, `encEn` being 1 from
tick 1; the delayed clock bit is the clock bit of the tick before; at 12 MHz on tick 10000 the three are 16, 0 and 16 and
the delayed clock bit is 0. Out of TRIGGERED IDLE only an accepted trigger leads, or a release. -/
def Obligations.QuietFromReset : Prop :=
  (∀ (c : Nat) (l : List InputRun) (r s : State), Config.Legal c → (∀ x ∈ l, 1 ≤ x.count) → r = State.resetAt c →
    s = r.loadSchedule l → ∀ k, (∀ j, j < k → s.inputAfter j = 0b00) → ∃ t, runTicks k s = .next t ∧
      t.outputs = ⟨false, false, false⟩ ∧
      ({ t with clkHz := c, tick := 0, schedule := [] } : State) =
        { r with tbCount := t.tbCount, tbClk := t.tbClk, dbCount := t.dbCount, encClkDly := t.encClkDly,
                 encEn := decide (1 ≤ k) } ∧
      t.encClkDly = (((k - 1) / Config.halfBit c) % 2 == 1) ∧
      (c = 12000000 → k = 10000 → t.tbCount = 16 ∧ t.tbClk = false ∧ t.dbCount = 16 ∧ t.encClkDly = false)) ∧
  (∀ s t : State, step s = .next t → s.ctlState = .idle → s.mode = .triggered →
    (t.ctlState ≠ .idle → s.trigger = true) ∧ (t.mode ≠ .triggered → s.btnFall = true ∨ s.modePending = true))

/-- R177. Every input schedule whose runs have a count of at least 1 and a word 0 to 3 is legal: at every legal configuration it
loads and runs to every end tick; any other is refused as a text, and nothing is loaded. The schedule field that a program is
loaded into is the model's (log 3). -/
def Obligations.EveryInputScheduleRuns : Prop :=
  (∀ (rs : List EncodedRun) (s : State), s.Legal → (∀ r ∈ rs, 1 ≤ r.count ∧ r.word ≤ 3) →
    ∃ u, loadEncoded rs s = .next u ∧ u.sameRegisters s ∧ ∀ k, ∃ t, runTicks k u = .next t) ∧
  (∀ (rs : List EncodedRun) (s : State), (∃ r ∈ rs, r.count < 1 ∨ 3 < r.word) →
    loadEncoded rs s = .refused .illegalProgram)

/-- R67 and R163. A state that holds a value no rule writes has no step: it is refused by name, whatever else it holds. That the
step and not `exec` refuses, and in which order, is the model's choice (log 9). -/
def Obligations.UnreachableValuesRefused : Prop :=
  ∀ s : State, Config.Legal s.clkHz →
    (s.halfBit ≤ s.tbCount → step s = .refused .tbCountOutOfRange) ∧
    (s.tbCount < s.halfBit → 16 < s.bitCounter.toNat → step s = .refused .bitCounterOutOfRange)
end

