-- ==== Sys2Proof/Laws/Decode.lean ====
section
/-! SUPPORT. Laws/Decode: what the decoder answers. -/

namespace Sys2Proof

theorem mem_table (i : Instr) : i ∈ Instr.table := by cases i <;> decide

/-- A decoded operation belongs to the format asked for, its row matches the key, and the key is a legal one of the format. -/
theorem decode_ok {f : Format} {k : Key} {i : Instr} (h : decode f k = .ok i) :
    i.format = f ∧ i.matchesKey k = true ∧ k.wf f = true := by
  unfold decode at h
  split at h
  · cases h
  · rename_i hfit
    split at h
    · cases h
    · rename_i hres
      split at h
      · rename_i j hj
        cases h
        have hp := List.find?_some hj
        simp only [Bool.and_eq_true, beq_iff_eq] at hp
        refine ⟨hp.1, hp.2, ?_⟩
        simp only [Key.wf, Bool.and_eq_true]
        simpa using And.intro hfit hres
      · cases h

/-- Exactly one row of a format matches a legal key (30_encoding.md R66: the rows are disjoint and cover the keys). -/
theorem rows_partition (f : Format) (k : Key) (hk : k.wf f = true) :
    (Instr.table.filter (fun i => i.format == f && i.matchesKey k)).length = 1 := by
  cases f <;> revert k <;> decide

/-- Two operations of one format never match the same legal key. -/
theorem rows_disjoint {f : Format} {k : Key} {i j : Instr} (hi : i.format = f) (hj : j.format = f)
    (hk : k.wf f = true) (mi : i.matchesKey k = true) (mj : j.matchesKey k = true) : i = j := by
  obtain ⟨x, hx⟩ := List.length_eq_one_iff.mp (rows_partition f k hk)
  have mem : ∀ l : Instr, l.format = f → l.matchesKey k = true → l = x := by
    intro l hl ml
    have : l ∈ Instr.table.filter (fun i => i.format == f && i.matchesKey k) :=
      List.mem_filter.mpr ⟨mem_table l, by simp [hl, ml]⟩
    simpa [hx] using this
  rw [mem i hi mi, mem j hj mj]

@[simp] theorem decode_tb (h c : Bool) :
    decode .tb ((bit h ++ bit c).setWidth 5) = .ok (if h then (if c then .tbHalf else .tbCycle) else .tbCount) := by
  revert h c; decide

@[simp] theorem decode_enc (en : Bool) (e : EncState) :
    decode .enc ((bit en ++ e.code).setWidth 5) = .ok (if en then
      (match e with
        | .idle => .encIdle | .waitStart => .encWaitStart | .startBit => .encStartBit
        | .bitEncode => .encBitEncode | .stopBit => .encStopBit)
      else .encFrozen) := by
  cases en <;> cases e <;> decide

/-- The operation of a debounce key: DB.WAIT off a sample tick, else the row of the source's table (42_button_debouncer.md
R103 to R112). -/
def dbInstr (sample : Bool) (r : BitVec 3) (b : Bool) : Instr :=
  if !sample then .dbWait
  else if b then
    (if 4 ≤ r.toNat then .dbR1xx1 else if r = 0 then .dbR0001 else if r = 1 then .dbR0011 else if r = 2 then .dbR0101 else .dbR0111)
  else
    (if r.toNat ≤ 3 then .dbR0xx0 else if r = 7 then .dbR1110 else if r = 6 then .dbR1100 else if r = 5 then .dbR1010 else .dbR1000)

@[simp] theorem decode_db (sample : Bool) (r : BitVec 3) (b : Bool) :
    decode .db ((bit sample ++ r ++ bit b).setWidth 5) = .ok (dbInstr sample r b) := by
  revert sample r b; decide

@[simp] theorem decode_trg (g : Bool) (c : BitVec 4) :
    decode .trg ((bit g ++ c).setWidth 5) = .ok (if g then .trgHigh else .trgLow) := by
  revert g c; decide

@[simp] theorem decode_ctl (c : CtlState) :
    decode .ctl (c.code.setWidth 5) = .ok (match c with
      | .idle => .ctlIdle | .start => .ctlStart | .transmit => .ctlTransmit | .stop => .ctlStop) := by
  cases c <;> decide

@[simp] theorem decode_en (e d : Bool) :
    decode .en ((bit e ++ bit d).setWidth 5) = .ok (if e then .enSet else if d then .enClear else .enHold) := by
  revert e d; decide

@[simp] theorem decode_st (e d : Bool) :
    decode .st ((bit e ++ bit d).setWidth 5) = .ok (if e then .stSet else if d then .stClear else .stHold) := by
  revert e d; decide

@[simp] theorem decode_mode (m r p : Bool) :
    decode .mode ((bit m ++ bit r ++ bit p).setWidth 5) =
      .ok (if r then (if m then (if p then .modeC2T else .modeDefer) else .modeT2C) else .modeHold) := by
  revert m r p; decide

end Sys2Proof
end

