-- ==== Sys2Proof/Laws/State.lean ====
section
/-! SUPPORT. Laws/State: one lemma per field per named write, true by rfl, so that no later proof unfolds a record update; the
frame of each format's writes is read off them. -/

namespace Sys2Proof.Machine

variable (s : State)

@[simp] theorem writeTimebase_tbCount (c : Nat) (k : Bool) : (s.writeTimebase c k).tbCount = c := rfl
@[simp] theorem writeTimebase_tbClk (c : Nat) (k : Bool) : (s.writeTimebase c k).tbClk = k := rfl
@[simp] theorem writeTimebase_encState (c : Nat) (k : Bool) : (s.writeTimebase c k).encState = s.encState := rfl
@[simp] theorem writeTimebase_encBit (c : Nat) (k : Bool) : (s.writeTimebase c k).encBit = s.encBit := rfl
@[simp] theorem writeTimebase_encClkDly (c : Nat) (k : Bool) : (s.writeTimebase c k).encClkDly = s.encClkDly := rfl
@[simp] theorem writeTimebase_encStopPend (c : Nat) (k : Bool) : (s.writeTimebase c k).encStopPend = s.encStopPend := rfl
@[simp] theorem writeTimebase_dbCount (c : Nat) (k : Bool) : (s.writeTimebase c k).dbCount = s.dbCount := rfl
@[simp] theorem writeTimebase_dbReg (c : Nat) (k : Bool) : (s.writeTimebase c k).dbReg = s.dbReg := rfl
@[simp] theorem writeTimebase_trgCount (c : Nat) (k : Bool) : (s.writeTimebase c k).trgCount = s.trgCount := rfl
@[simp] theorem writeTimebase_ctlState (c : Nat) (k : Bool) : (s.writeTimebase c k).ctlState = s.ctlState := rfl
@[simp] theorem writeTimebase_bitCounter (c : Nat) (k : Bool) : (s.writeTimebase c k).bitCounter = s.bitCounter := rfl
@[simp] theorem writeTimebase_mode (c : Nat) (k : Bool) : (s.writeTimebase c k).mode = s.mode := rfl
@[simp] theorem writeTimebase_modePending (c : Nat) (k : Bool) : (s.writeTimebase c k).modePending = s.modePending := rfl
@[simp] theorem writeTimebase_encEn (c : Nat) (k : Bool) : (s.writeTimebase c k).encEn = s.encEn := rfl
@[simp] theorem writeTimebase_starting (c : Nat) (k : Bool) : (s.writeTimebase c k).starting = s.starting := rfl
@[simp] theorem writeTimebase_btnPrev (c : Nat) (k : Bool) : (s.writeTimebase c k).btnPrev = s.btnPrev := rfl
@[simp] theorem writeTimebase_outPrev (c : Nat) (k : Bool) : (s.writeTimebase c k).outPrev = s.outPrev := rfl
@[simp] theorem writeTimebase_clkHz (c : Nat) (k : Bool) : (s.writeTimebase c k).clkHz = s.clkHz := rfl
@[simp] theorem writeTimebase_tick (c : Nat) (k : Bool) : (s.writeTimebase c k).tick = s.tick := rfl
@[simp] theorem writeTimebase_schedule (c : Nat) (k : Bool) : (s.writeTimebase c k).schedule = s.schedule := rfl

@[simp] theorem writeEncoder_tbCount (e : EncState) (b : Bool) (d : Bool) (p : Bool) : (s.writeEncoder e b d p).tbCount = s.tbCount := rfl
@[simp] theorem writeEncoder_tbClk (e : EncState) (b : Bool) (d : Bool) (p : Bool) : (s.writeEncoder e b d p).tbClk = s.tbClk := rfl
@[simp] theorem writeEncoder_encState (e : EncState) (b : Bool) (d : Bool) (p : Bool) : (s.writeEncoder e b d p).encState = e := rfl
@[simp] theorem writeEncoder_encBit (e : EncState) (b : Bool) (d : Bool) (p : Bool) : (s.writeEncoder e b d p).encBit = b := rfl
@[simp] theorem writeEncoder_encClkDly (e : EncState) (b : Bool) (d : Bool) (p : Bool) : (s.writeEncoder e b d p).encClkDly = d := rfl
@[simp] theorem writeEncoder_encStopPend (e : EncState) (b : Bool) (d : Bool) (p : Bool) : (s.writeEncoder e b d p).encStopPend = p := rfl
@[simp] theorem writeEncoder_dbCount (e : EncState) (b : Bool) (d : Bool) (p : Bool) : (s.writeEncoder e b d p).dbCount = s.dbCount := rfl
@[simp] theorem writeEncoder_dbReg (e : EncState) (b : Bool) (d : Bool) (p : Bool) : (s.writeEncoder e b d p).dbReg = s.dbReg := rfl
@[simp] theorem writeEncoder_trgCount (e : EncState) (b : Bool) (d : Bool) (p : Bool) : (s.writeEncoder e b d p).trgCount = s.trgCount := rfl
@[simp] theorem writeEncoder_ctlState (e : EncState) (b : Bool) (d : Bool) (p : Bool) : (s.writeEncoder e b d p).ctlState = s.ctlState := rfl
@[simp] theorem writeEncoder_bitCounter (e : EncState) (b : Bool) (d : Bool) (p : Bool) : (s.writeEncoder e b d p).bitCounter = s.bitCounter := rfl
@[simp] theorem writeEncoder_mode (e : EncState) (b : Bool) (d : Bool) (p : Bool) : (s.writeEncoder e b d p).mode = s.mode := rfl
@[simp] theorem writeEncoder_modePending (e : EncState) (b : Bool) (d : Bool) (p : Bool) : (s.writeEncoder e b d p).modePending = s.modePending := rfl
@[simp] theorem writeEncoder_encEn (e : EncState) (b : Bool) (d : Bool) (p : Bool) : (s.writeEncoder e b d p).encEn = s.encEn := rfl
@[simp] theorem writeEncoder_starting (e : EncState) (b : Bool) (d : Bool) (p : Bool) : (s.writeEncoder e b d p).starting = s.starting := rfl
@[simp] theorem writeEncoder_btnPrev (e : EncState) (b : Bool) (d : Bool) (p : Bool) : (s.writeEncoder e b d p).btnPrev = s.btnPrev := rfl
@[simp] theorem writeEncoder_outPrev (e : EncState) (b : Bool) (d : Bool) (p : Bool) : (s.writeEncoder e b d p).outPrev = s.outPrev := rfl
@[simp] theorem writeEncoder_clkHz (e : EncState) (b : Bool) (d : Bool) (p : Bool) : (s.writeEncoder e b d p).clkHz = s.clkHz := rfl
@[simp] theorem writeEncoder_tick (e : EncState) (b : Bool) (d : Bool) (p : Bool) : (s.writeEncoder e b d p).tick = s.tick := rfl
@[simp] theorem writeEncoder_schedule (e : EncState) (b : Bool) (d : Bool) (p : Bool) : (s.writeEncoder e b d p).schedule = s.schedule := rfl

@[simp] theorem writeDebouncer_tbCount (c : BitVec 8) (r : BitVec 3) : (s.writeDebouncer c r).tbCount = s.tbCount := rfl
@[simp] theorem writeDebouncer_tbClk (c : BitVec 8) (r : BitVec 3) : (s.writeDebouncer c r).tbClk = s.tbClk := rfl
@[simp] theorem writeDebouncer_encState (c : BitVec 8) (r : BitVec 3) : (s.writeDebouncer c r).encState = s.encState := rfl
@[simp] theorem writeDebouncer_encBit (c : BitVec 8) (r : BitVec 3) : (s.writeDebouncer c r).encBit = s.encBit := rfl
@[simp] theorem writeDebouncer_encClkDly (c : BitVec 8) (r : BitVec 3) : (s.writeDebouncer c r).encClkDly = s.encClkDly := rfl
@[simp] theorem writeDebouncer_encStopPend (c : BitVec 8) (r : BitVec 3) : (s.writeDebouncer c r).encStopPend = s.encStopPend := rfl
@[simp] theorem writeDebouncer_dbCount (c : BitVec 8) (r : BitVec 3) : (s.writeDebouncer c r).dbCount = c := rfl
@[simp] theorem writeDebouncer_dbReg (c : BitVec 8) (r : BitVec 3) : (s.writeDebouncer c r).dbReg = r := rfl
@[simp] theorem writeDebouncer_trgCount (c : BitVec 8) (r : BitVec 3) : (s.writeDebouncer c r).trgCount = s.trgCount := rfl
@[simp] theorem writeDebouncer_ctlState (c : BitVec 8) (r : BitVec 3) : (s.writeDebouncer c r).ctlState = s.ctlState := rfl
@[simp] theorem writeDebouncer_bitCounter (c : BitVec 8) (r : BitVec 3) : (s.writeDebouncer c r).bitCounter = s.bitCounter := rfl
@[simp] theorem writeDebouncer_mode (c : BitVec 8) (r : BitVec 3) : (s.writeDebouncer c r).mode = s.mode := rfl
@[simp] theorem writeDebouncer_modePending (c : BitVec 8) (r : BitVec 3) : (s.writeDebouncer c r).modePending = s.modePending := rfl
@[simp] theorem writeDebouncer_encEn (c : BitVec 8) (r : BitVec 3) : (s.writeDebouncer c r).encEn = s.encEn := rfl
@[simp] theorem writeDebouncer_starting (c : BitVec 8) (r : BitVec 3) : (s.writeDebouncer c r).starting = s.starting := rfl
@[simp] theorem writeDebouncer_btnPrev (c : BitVec 8) (r : BitVec 3) : (s.writeDebouncer c r).btnPrev = s.btnPrev := rfl
@[simp] theorem writeDebouncer_outPrev (c : BitVec 8) (r : BitVec 3) : (s.writeDebouncer c r).outPrev = s.outPrev := rfl
@[simp] theorem writeDebouncer_clkHz (c : BitVec 8) (r : BitVec 3) : (s.writeDebouncer c r).clkHz = s.clkHz := rfl
@[simp] theorem writeDebouncer_tick (c : BitVec 8) (r : BitVec 3) : (s.writeDebouncer c r).tick = s.tick := rfl
@[simp] theorem writeDebouncer_schedule (c : BitVec 8) (r : BitVec 3) : (s.writeDebouncer c r).schedule = s.schedule := rfl

@[simp] theorem writeTrigger_tbCount (c : BitVec 4) : (s.writeTrigger c).tbCount = s.tbCount := rfl
@[simp] theorem writeTrigger_tbClk (c : BitVec 4) : (s.writeTrigger c).tbClk = s.tbClk := rfl
@[simp] theorem writeTrigger_encState (c : BitVec 4) : (s.writeTrigger c).encState = s.encState := rfl
@[simp] theorem writeTrigger_encBit (c : BitVec 4) : (s.writeTrigger c).encBit = s.encBit := rfl
@[simp] theorem writeTrigger_encClkDly (c : BitVec 4) : (s.writeTrigger c).encClkDly = s.encClkDly := rfl
@[simp] theorem writeTrigger_encStopPend (c : BitVec 4) : (s.writeTrigger c).encStopPend = s.encStopPend := rfl
@[simp] theorem writeTrigger_dbCount (c : BitVec 4) : (s.writeTrigger c).dbCount = s.dbCount := rfl
@[simp] theorem writeTrigger_dbReg (c : BitVec 4) : (s.writeTrigger c).dbReg = s.dbReg := rfl
@[simp] theorem writeTrigger_trgCount (c : BitVec 4) : (s.writeTrigger c).trgCount = c := rfl
@[simp] theorem writeTrigger_ctlState (c : BitVec 4) : (s.writeTrigger c).ctlState = s.ctlState := rfl
@[simp] theorem writeTrigger_bitCounter (c : BitVec 4) : (s.writeTrigger c).bitCounter = s.bitCounter := rfl
@[simp] theorem writeTrigger_mode (c : BitVec 4) : (s.writeTrigger c).mode = s.mode := rfl
@[simp] theorem writeTrigger_modePending (c : BitVec 4) : (s.writeTrigger c).modePending = s.modePending := rfl
@[simp] theorem writeTrigger_encEn (c : BitVec 4) : (s.writeTrigger c).encEn = s.encEn := rfl
@[simp] theorem writeTrigger_starting (c : BitVec 4) : (s.writeTrigger c).starting = s.starting := rfl
@[simp] theorem writeTrigger_btnPrev (c : BitVec 4) : (s.writeTrigger c).btnPrev = s.btnPrev := rfl
@[simp] theorem writeTrigger_outPrev (c : BitVec 4) : (s.writeTrigger c).outPrev = s.outPrev := rfl
@[simp] theorem writeTrigger_clkHz (c : BitVec 4) : (s.writeTrigger c).clkHz = s.clkHz := rfl
@[simp] theorem writeTrigger_tick (c : BitVec 4) : (s.writeTrigger c).tick = s.tick := rfl
@[simp] theorem writeTrigger_schedule (c : BitVec 4) : (s.writeTrigger c).schedule = s.schedule := rfl

@[simp] theorem writeController_tbCount (x : CtlState) (c : BitVec 5) : (s.writeController x c).tbCount = s.tbCount := rfl
@[simp] theorem writeController_tbClk (x : CtlState) (c : BitVec 5) : (s.writeController x c).tbClk = s.tbClk := rfl
@[simp] theorem writeController_encState (x : CtlState) (c : BitVec 5) : (s.writeController x c).encState = s.encState := rfl
@[simp] theorem writeController_encBit (x : CtlState) (c : BitVec 5) : (s.writeController x c).encBit = s.encBit := rfl
@[simp] theorem writeController_encClkDly (x : CtlState) (c : BitVec 5) : (s.writeController x c).encClkDly = s.encClkDly := rfl
@[simp] theorem writeController_encStopPend (x : CtlState) (c : BitVec 5) : (s.writeController x c).encStopPend = s.encStopPend := rfl
@[simp] theorem writeController_dbCount (x : CtlState) (c : BitVec 5) : (s.writeController x c).dbCount = s.dbCount := rfl
@[simp] theorem writeController_dbReg (x : CtlState) (c : BitVec 5) : (s.writeController x c).dbReg = s.dbReg := rfl
@[simp] theorem writeController_trgCount (x : CtlState) (c : BitVec 5) : (s.writeController x c).trgCount = s.trgCount := rfl
@[simp] theorem writeController_ctlState (x : CtlState) (c : BitVec 5) : (s.writeController x c).ctlState = x := rfl
@[simp] theorem writeController_bitCounter (x : CtlState) (c : BitVec 5) : (s.writeController x c).bitCounter = c := rfl
@[simp] theorem writeController_mode (x : CtlState) (c : BitVec 5) : (s.writeController x c).mode = s.mode := rfl
@[simp] theorem writeController_modePending (x : CtlState) (c : BitVec 5) : (s.writeController x c).modePending = s.modePending := rfl
@[simp] theorem writeController_encEn (x : CtlState) (c : BitVec 5) : (s.writeController x c).encEn = s.encEn := rfl
@[simp] theorem writeController_starting (x : CtlState) (c : BitVec 5) : (s.writeController x c).starting = s.starting := rfl
@[simp] theorem writeController_btnPrev (x : CtlState) (c : BitVec 5) : (s.writeController x c).btnPrev = s.btnPrev := rfl
@[simp] theorem writeController_outPrev (x : CtlState) (c : BitVec 5) : (s.writeController x c).outPrev = s.outPrev := rfl
@[simp] theorem writeController_clkHz (x : CtlState) (c : BitVec 5) : (s.writeController x c).clkHz = s.clkHz := rfl
@[simp] theorem writeController_tick (x : CtlState) (c : BitVec 5) : (s.writeController x c).tick = s.tick := rfl
@[simp] theorem writeController_schedule (x : CtlState) (c : BitVec 5) : (s.writeController x c).schedule = s.schedule := rfl

@[simp] theorem writeEnable_tbCount (v : Bool) : (s.writeEnable v).tbCount = s.tbCount := rfl
@[simp] theorem writeEnable_tbClk (v : Bool) : (s.writeEnable v).tbClk = s.tbClk := rfl
@[simp] theorem writeEnable_encState (v : Bool) : (s.writeEnable v).encState = s.encState := rfl
@[simp] theorem writeEnable_encBit (v : Bool) : (s.writeEnable v).encBit = s.encBit := rfl
@[simp] theorem writeEnable_encClkDly (v : Bool) : (s.writeEnable v).encClkDly = s.encClkDly := rfl
@[simp] theorem writeEnable_encStopPend (v : Bool) : (s.writeEnable v).encStopPend = s.encStopPend := rfl
@[simp] theorem writeEnable_dbCount (v : Bool) : (s.writeEnable v).dbCount = s.dbCount := rfl
@[simp] theorem writeEnable_dbReg (v : Bool) : (s.writeEnable v).dbReg = s.dbReg := rfl
@[simp] theorem writeEnable_trgCount (v : Bool) : (s.writeEnable v).trgCount = s.trgCount := rfl
@[simp] theorem writeEnable_ctlState (v : Bool) : (s.writeEnable v).ctlState = s.ctlState := rfl
@[simp] theorem writeEnable_bitCounter (v : Bool) : (s.writeEnable v).bitCounter = s.bitCounter := rfl
@[simp] theorem writeEnable_mode (v : Bool) : (s.writeEnable v).mode = s.mode := rfl
@[simp] theorem writeEnable_modePending (v : Bool) : (s.writeEnable v).modePending = s.modePending := rfl
@[simp] theorem writeEnable_encEn (v : Bool) : (s.writeEnable v).encEn = v := rfl
@[simp] theorem writeEnable_starting (v : Bool) : (s.writeEnable v).starting = s.starting := rfl
@[simp] theorem writeEnable_btnPrev (v : Bool) : (s.writeEnable v).btnPrev = s.btnPrev := rfl
@[simp] theorem writeEnable_outPrev (v : Bool) : (s.writeEnable v).outPrev = s.outPrev := rfl
@[simp] theorem writeEnable_clkHz (v : Bool) : (s.writeEnable v).clkHz = s.clkHz := rfl
@[simp] theorem writeEnable_tick (v : Bool) : (s.writeEnable v).tick = s.tick := rfl
@[simp] theorem writeEnable_schedule (v : Bool) : (s.writeEnable v).schedule = s.schedule := rfl

@[simp] theorem writeStarting_tbCount (v : Bool) : (s.writeStarting v).tbCount = s.tbCount := rfl
@[simp] theorem writeStarting_tbClk (v : Bool) : (s.writeStarting v).tbClk = s.tbClk := rfl
@[simp] theorem writeStarting_encState (v : Bool) : (s.writeStarting v).encState = s.encState := rfl
@[simp] theorem writeStarting_encBit (v : Bool) : (s.writeStarting v).encBit = s.encBit := rfl
@[simp] theorem writeStarting_encClkDly (v : Bool) : (s.writeStarting v).encClkDly = s.encClkDly := rfl
@[simp] theorem writeStarting_encStopPend (v : Bool) : (s.writeStarting v).encStopPend = s.encStopPend := rfl
@[simp] theorem writeStarting_dbCount (v : Bool) : (s.writeStarting v).dbCount = s.dbCount := rfl
@[simp] theorem writeStarting_dbReg (v : Bool) : (s.writeStarting v).dbReg = s.dbReg := rfl
@[simp] theorem writeStarting_trgCount (v : Bool) : (s.writeStarting v).trgCount = s.trgCount := rfl
@[simp] theorem writeStarting_ctlState (v : Bool) : (s.writeStarting v).ctlState = s.ctlState := rfl
@[simp] theorem writeStarting_bitCounter (v : Bool) : (s.writeStarting v).bitCounter = s.bitCounter := rfl
@[simp] theorem writeStarting_mode (v : Bool) : (s.writeStarting v).mode = s.mode := rfl
@[simp] theorem writeStarting_modePending (v : Bool) : (s.writeStarting v).modePending = s.modePending := rfl
@[simp] theorem writeStarting_encEn (v : Bool) : (s.writeStarting v).encEn = s.encEn := rfl
@[simp] theorem writeStarting_starting (v : Bool) : (s.writeStarting v).starting = v := rfl
@[simp] theorem writeStarting_btnPrev (v : Bool) : (s.writeStarting v).btnPrev = s.btnPrev := rfl
@[simp] theorem writeStarting_outPrev (v : Bool) : (s.writeStarting v).outPrev = s.outPrev := rfl
@[simp] theorem writeStarting_clkHz (v : Bool) : (s.writeStarting v).clkHz = s.clkHz := rfl
@[simp] theorem writeStarting_tick (v : Bool) : (s.writeStarting v).tick = s.tick := rfl
@[simp] theorem writeStarting_schedule (v : Bool) : (s.writeStarting v).schedule = s.schedule := rfl

@[simp] theorem writeMode_tbCount (m : Mode) (p : Bool) : (s.writeMode m p).tbCount = s.tbCount := rfl
@[simp] theorem writeMode_tbClk (m : Mode) (p : Bool) : (s.writeMode m p).tbClk = s.tbClk := rfl
@[simp] theorem writeMode_encState (m : Mode) (p : Bool) : (s.writeMode m p).encState = s.encState := rfl
@[simp] theorem writeMode_encBit (m : Mode) (p : Bool) : (s.writeMode m p).encBit = s.encBit := rfl
@[simp] theorem writeMode_encClkDly (m : Mode) (p : Bool) : (s.writeMode m p).encClkDly = s.encClkDly := rfl
@[simp] theorem writeMode_encStopPend (m : Mode) (p : Bool) : (s.writeMode m p).encStopPend = s.encStopPend := rfl
@[simp] theorem writeMode_dbCount (m : Mode) (p : Bool) : (s.writeMode m p).dbCount = s.dbCount := rfl
@[simp] theorem writeMode_dbReg (m : Mode) (p : Bool) : (s.writeMode m p).dbReg = s.dbReg := rfl
@[simp] theorem writeMode_trgCount (m : Mode) (p : Bool) : (s.writeMode m p).trgCount = s.trgCount := rfl
@[simp] theorem writeMode_ctlState (m : Mode) (p : Bool) : (s.writeMode m p).ctlState = s.ctlState := rfl
@[simp] theorem writeMode_bitCounter (m : Mode) (p : Bool) : (s.writeMode m p).bitCounter = s.bitCounter := rfl
@[simp] theorem writeMode_mode (m : Mode) (p : Bool) : (s.writeMode m p).mode = m := rfl
@[simp] theorem writeMode_modePending (m : Mode) (p : Bool) : (s.writeMode m p).modePending = p := rfl
@[simp] theorem writeMode_encEn (m : Mode) (p : Bool) : (s.writeMode m p).encEn = s.encEn := rfl
@[simp] theorem writeMode_starting (m : Mode) (p : Bool) : (s.writeMode m p).starting = s.starting := rfl
@[simp] theorem writeMode_btnPrev (m : Mode) (p : Bool) : (s.writeMode m p).btnPrev = s.btnPrev := rfl
@[simp] theorem writeMode_outPrev (m : Mode) (p : Bool) : (s.writeMode m p).outPrev = s.outPrev := rfl
@[simp] theorem writeMode_clkHz (m : Mode) (p : Bool) : (s.writeMode m p).clkHz = s.clkHz := rfl
@[simp] theorem writeMode_tick (m : Mode) (p : Bool) : (s.writeMode m p).tick = s.tick := rfl
@[simp] theorem writeMode_schedule (m : Mode) (p : Bool) : (s.writeMode m p).schedule = s.schedule := rfl

@[simp] theorem loadSchedule_tbCount (l : List InputRun) : (s.loadSchedule l).tbCount = s.tbCount := rfl
@[simp] theorem loadSchedule_tbClk (l : List InputRun) : (s.loadSchedule l).tbClk = s.tbClk := rfl
@[simp] theorem loadSchedule_encState (l : List InputRun) : (s.loadSchedule l).encState = s.encState := rfl
@[simp] theorem loadSchedule_encBit (l : List InputRun) : (s.loadSchedule l).encBit = s.encBit := rfl
@[simp] theorem loadSchedule_encClkDly (l : List InputRun) : (s.loadSchedule l).encClkDly = s.encClkDly := rfl
@[simp] theorem loadSchedule_encStopPend (l : List InputRun) : (s.loadSchedule l).encStopPend = s.encStopPend := rfl
@[simp] theorem loadSchedule_dbCount (l : List InputRun) : (s.loadSchedule l).dbCount = s.dbCount := rfl
@[simp] theorem loadSchedule_dbReg (l : List InputRun) : (s.loadSchedule l).dbReg = s.dbReg := rfl
@[simp] theorem loadSchedule_trgCount (l : List InputRun) : (s.loadSchedule l).trgCount = s.trgCount := rfl
@[simp] theorem loadSchedule_ctlState (l : List InputRun) : (s.loadSchedule l).ctlState = s.ctlState := rfl
@[simp] theorem loadSchedule_bitCounter (l : List InputRun) : (s.loadSchedule l).bitCounter = s.bitCounter := rfl
@[simp] theorem loadSchedule_mode (l : List InputRun) : (s.loadSchedule l).mode = s.mode := rfl
@[simp] theorem loadSchedule_modePending (l : List InputRun) : (s.loadSchedule l).modePending = s.modePending := rfl
@[simp] theorem loadSchedule_encEn (l : List InputRun) : (s.loadSchedule l).encEn = s.encEn := rfl
@[simp] theorem loadSchedule_starting (l : List InputRun) : (s.loadSchedule l).starting = s.starting := rfl
@[simp] theorem loadSchedule_btnPrev (l : List InputRun) : (s.loadSchedule l).btnPrev = s.btnPrev := rfl
@[simp] theorem loadSchedule_outPrev (l : List InputRun) : (s.loadSchedule l).outPrev = s.outPrev := rfl
@[simp] theorem loadSchedule_clkHz (l : List InputRun) : (s.loadSchedule l).clkHz = s.clkHz := rfl
@[simp] theorem loadSchedule_tick (l : List InputRun) : (s.loadSchedule l).tick = s.tick := rfl
@[simp] theorem loadSchedule_schedule (l : List InputRun) : (s.loadSchedule l).schedule = l := rfl

end Sys2Proof.Machine
end

