-- ==== Sys2Proof/Laws/Ops.lean ====
section
/-! SUPPORT. Laws/Ops: for each shared operation, once, everything it can do. -/

namespace Sys2Proof.Machine

@[simp] theorem andThen_next (s : State) (k : State → Host.Outcome State Fault Refusal) : andThen (.next s) k = k s := rfl

theorem andThen_eq_next {o : Host.Outcome State Fault Refusal} {k : State → Host.Outcome State Fault Refusal} {t : State}
    (h : andThen o k = .next t) : ∃ s, o = .next s ∧ k s = .next t := by
  cases o with
  | next s => exact ⟨s, rfl, h⟩
  | fault r => cases h
  | refused r => cases h

/-- What the check of a state answers: itself, exactly when it is legal. -/
theorem validated_of_legal {s : State} (h : s.Legal) : validated s = .next s := by
  obtain ⟨hc, ht, hb, hs⟩ := h
  have h0 : s.clkHz ≠ 0 := by
    intro h0; simp [Config.Legal, Config.halfBit, h0] at hc
  have h1 : ¬ s.halfBit < 2 := by simp only [State.halfBit]; omega
  have h4 : s.schedule.all InputRun.wf = true := by
    simp only [List.all_eq_true, InputRun.wf, decide_eq_true_eq]; exact hs
  have h3 : ¬ Config.bitCountMax.toNat < s.bitCounter.toNat := by
    have : Config.bitCountMax.toNat = 16 := rfl
    omega
  unfold validated
  rw [if_neg h0, if_neg h1, if_neg (by omega), if_neg h3, if_pos h4]

theorem validated_eq_next {s t : State} (h : validated s = .next t) : t = s ∧ s.Legal := by
  unfold validated at h
  split at h
  · cases h
  split at h
  · cases h
  split at h
  · cases h
  split at h
  · cases h
  split at h
  · rename_i h0 h1 h2 h3 h4
    cases h
    refine ⟨rfl, ?_, by omega, ?_, ?_⟩
    · simp only [State.halfBit] at h1; omega
    · have : Config.bitCountMax.toNat = 16 := rfl
      omega
    · simpa [List.all_eq_true, InputRun.wf] using h4
  · cases h

theorem nextSchedule_counts {l : List InputRun} (h : ∀ r ∈ l, 1 ≤ r.count) : ∀ r ∈ nextSchedule l, 1 ≤ r.count := by
  cases l with
  | nil => simp [nextSchedule]
  | cons a as =>
    have has : ∀ r ∈ as, 1 ≤ r.count := fun r hr => h r (List.mem_cons_of_mem _ hr)
    by_cases hc : a.count ≤ 1
    · simpa [nextSchedule, hc] using has
    · simp only [nextSchedule, hc, if_false, List.forall_mem_cons]
      exact ⟨by omega, has⟩

/-- What boot answers: `S(0)` for a positive integer with `N >= 2`, else ConfigError. -/
theorem boot_eq_next {clk : Rat} {t : State} (h : boot clk = .next t) :
    clk.den = 1 ∧ 0 < clk.num ∧ Config.Legal clk.num.toNat ∧ t = State.resetAt clk.num.toNat := by
  unfold boot configCheck at h
  split at h
  · cases h
  · rename_i h1
    split at h
    · cases h
    · rename_i h2
      cases h
      simp only [ne_eq, not_or, not_not, Int.not_le] at h1
      exact ⟨h1.1, h1.2, by simp only [Config.Legal]; omega, rfl⟩

end Sys2Proof.Machine
end

