-- ==== Sys2Proof/Laws/PerInstr.lean ====
section
/-! SUPPORT. Laws/PerInstr: the per-operation family RowForm. -/

namespace Sys2Proof.Laws

/-- A row of 30_encoding.md R66 is well formed: its mask lies within its format's key, its match within its mask, it stands in
the table once, and its match is no reserved key of its format (R67). -/
def RowForm.Statement (i : Instr) : Prop :=
  i.pattern.mask &&& ~~~i.format.keyMask = 0 ∧ i.pattern.pat &&& ~~~i.pattern.mask = 0 ∧
  Instr.table.count i = 1 ∧ i.pattern.pat.reserved i.format = false

theorem RowForm.tbCount : RowForm.Statement .tbCount := by unfold RowForm.Statement; decide
theorem RowForm.tbHalf : RowForm.Statement .tbHalf := by unfold RowForm.Statement; decide
theorem RowForm.tbCycle : RowForm.Statement .tbCycle := by unfold RowForm.Statement; decide
theorem RowForm.encFrozen : RowForm.Statement .encFrozen := by unfold RowForm.Statement; decide
theorem RowForm.encIdle : RowForm.Statement .encIdle := by unfold RowForm.Statement; decide
theorem RowForm.encWaitStart : RowForm.Statement .encWaitStart := by unfold RowForm.Statement; decide
theorem RowForm.encStartBit : RowForm.Statement .encStartBit := by unfold RowForm.Statement; decide
theorem RowForm.encBitEncode : RowForm.Statement .encBitEncode := by unfold RowForm.Statement; decide
theorem RowForm.encStopBit : RowForm.Statement .encStopBit := by unfold RowForm.Statement; decide
theorem RowForm.dbWait : RowForm.Statement .dbWait := by unfold RowForm.Statement; decide
theorem RowForm.dbR0xx0 : RowForm.Statement .dbR0xx0 := by unfold RowForm.Statement; decide
theorem RowForm.dbR0001 : RowForm.Statement .dbR0001 := by unfold RowForm.Statement; decide
theorem RowForm.dbR0011 : RowForm.Statement .dbR0011 := by unfold RowForm.Statement; decide
theorem RowForm.dbR0101 : RowForm.Statement .dbR0101 := by unfold RowForm.Statement; decide
theorem RowForm.dbR0111 : RowForm.Statement .dbR0111 := by unfold RowForm.Statement; decide
theorem RowForm.dbR1xx1 : RowForm.Statement .dbR1xx1 := by unfold RowForm.Statement; decide
theorem RowForm.dbR1110 : RowForm.Statement .dbR1110 := by unfold RowForm.Statement; decide
theorem RowForm.dbR1100 : RowForm.Statement .dbR1100 := by unfold RowForm.Statement; decide
theorem RowForm.dbR1010 : RowForm.Statement .dbR1010 := by unfold RowForm.Statement; decide
theorem RowForm.dbR1000 : RowForm.Statement .dbR1000 := by unfold RowForm.Statement; decide
theorem RowForm.trgHigh : RowForm.Statement .trgHigh := by unfold RowForm.Statement; decide
theorem RowForm.trgLow : RowForm.Statement .trgLow := by unfold RowForm.Statement; decide
theorem RowForm.ctlIdle : RowForm.Statement .ctlIdle := by unfold RowForm.Statement; decide
theorem RowForm.ctlStart : RowForm.Statement .ctlStart := by unfold RowForm.Statement; decide
theorem RowForm.ctlTransmit : RowForm.Statement .ctlTransmit := by unfold RowForm.Statement; decide
theorem RowForm.ctlStop : RowForm.Statement .ctlStop := by unfold RowForm.Statement; decide
theorem RowForm.enSet : RowForm.Statement .enSet := by unfold RowForm.Statement; decide
theorem RowForm.enClear : RowForm.Statement .enClear := by unfold RowForm.Statement; decide
theorem RowForm.enHold : RowForm.Statement .enHold := by unfold RowForm.Statement; decide
theorem RowForm.stSet : RowForm.Statement .stSet := by unfold RowForm.Statement; decide
theorem RowForm.stClear : RowForm.Statement .stClear := by unfold RowForm.Statement; decide
theorem RowForm.stHold : RowForm.Statement .stHold := by unfold RowForm.Statement; decide
theorem RowForm.modeHold : RowForm.Statement .modeHold := by unfold RowForm.Statement; decide
theorem RowForm.modeT2C : RowForm.Statement .modeT2C := by unfold RowForm.Statement; decide
theorem RowForm.modeC2T : RowForm.Statement .modeC2T := by unfold RowForm.Statement; decide
theorem RowForm.modeDefer : RowForm.Statement .modeDefer := by unfold RowForm.Statement; decide

end Sys2Proof.Laws
end

