-- ==== Sys2Proof/Laws/Step.lean ====
section
/-! SUPPORT. Laws/Step: what each format does on a tick, in closed form, and from it everything a step can do. -/

namespace Sys2Proof.Machine

/-- The encoder's next state while it is enabled (41_manchester_encoder.md R85 to R89). -/
def State.nextEncState (s : State) : EncState :=
  match s.encState with
  | .idle => if s.encStart then .waitStart else .idle
  | .waitStart => if s.tbCC then .startBit else .waitStart
  | .startBit => if s.tbCC then .bitEncode else .startBit
  | .bitEncode => if s.tbCC && (s.encStop || s.encStopPend) then .stopBit else .bitEncode
  | .stopBit => if s.tbCC then .idle else .stopBit

/-- The encoder's next data bit while it is enabled (41_manchester_encoder.md R87, R88). -/
def State.nextEncBit (s : State) : Bool :=
  match s.encState with
  | .startBit | .bitEncode => if s.tbCC then s.bitIn else s.encBit
  | .idle | .waitStart | .stopBit => s.encBit

/-- The debounce table in closed form: four consecutive samples of the other value flip the output
(42_button_debouncer.md R115). -/
def dbNext (r : BitVec 3) (b : Bool) : BitVec 3 :=
  if b then (if 3 ≤ r.toNat then 7 else r + 1) else (if r.toNat ≤ 4 then 0 else r - 1)

/-- The controller's next state (44_controller.md R131 to R134). -/
def State.nextCtlState (s : State) : CtlState :=
  match s.ctlState with
  | .idle => if s.trigger || s.mode == .continuous then .start else .idle
  | .start => .transmit
  | .transmit => if s.encCC && s.bitCounter == Config.bitCountMax then .stop else .transmit
  | .stop => if s.encCC then .idle else .stop

/-- The next value of the bit counter (44_controller.md R132, R133). -/
def State.nextBitCounter (s : State) : BitVec 5 :=
  match s.ctlState with
  | .idle | .stop => s.bitCounter
  | .start => 0
  | .transmit => if s.encCC then (if s.bitCounter == Config.bitCountMax then 0 else s.bitCounter + 1) else s.bitCounter

/-- The next value of the mode register (44_controller.md R142 to R145). -/
def State.nextMode (s : State) : Mode :=
  if s.switchReq then
    (match s.mode with
      | .triggered => .continuous
      | .continuous => if s.ctlState == .stop then .triggered else .continuous)
  else s.mode

/-- The next value of the pending-switch latch (44_controller.md R142 to R145). -/
def State.nextModePending (s : State) : Bool :=
  if s.switchReq then s.mode == .continuous && s.ctlState != .stop else s.modePending

/-- `S(t+1)` in closed form. -/
def State.succ (s : State) : State where
  tbCount := if s.hbc then 0 else s.tbCount + 1
  tbClk := s.hbc ^^ s.tbClk
  encState := if s.encEn then s.nextEncState else s.encState
  encBit := if s.encEn then s.nextEncBit else s.encBit
  encClkDly := if s.encEn then s.tbClk else s.encClkDly
  encStopPend := if s.encEn then (if s.tbCC then false else s.encStopPend || s.encStop) else s.encStopPend
  dbCount := s.dbCount + 1
  dbReg := if s.dbSample then dbNext s.dbReg s.buttonIn else s.dbReg
  trgCount := if s.triggerIn then saturatingSucc s.trgCount else 0
  ctlState := s.nextCtlState
  bitCounter := s.nextBitCounter
  mode := s.nextMode
  modePending := s.nextModePending
  encEn := s.enCond || (!s.disCond && s.encEn)
  starting := s.encStart || (!s.stClear && s.starting)
  btnPrev := s.dbOut
  outPrev := s.encOut
  clkHz := s.clkHz
  tick := s.tick + 1
  schedule := nextSchedule s.schedule

theorem runFormat_tb (s : State) :
    runFormat .tb s = .next (s.writeTimebase (if s.hbc then 0 else s.tbCount + 1) (s.hbc ^^ s.tbClk)) := by
  simp only [runFormat, State.key, decode_tb]
  cases s.hbc <;> cases h : s.tbClk <;> simp [exec, execTbCount, execTbHalf, execTbCycle, h]

theorem runFormat_enc (s : State) :
    runFormat .enc s = .next (if s.encEn then s.encEnabledWrite s.nextEncState s.nextEncBit else s) := by
  simp only [runFormat, State.key, decode_enc]
  cases h : s.encEn
  · rfl
  · cases h' : s.encState <;>
      simp [exec, execEncIdle, execEncWaitStart, execEncStartBit, execEncBitEncode, execEncStopBit, State.nextEncState,
        State.nextEncBit, h']

theorem runFormat_db (s : State) :
    runFormat .db s = .next (s.dbAdvance (if s.dbSample then dbNext s.dbReg s.buttonIn else s.dbReg)) := by
  simp only [runFormat, State.key, decode_db]
  have key : ∀ (r : BitVec 3) (b : Bool), exec (dbInstr true r b) s = .next (s.dbAdvance (dbNext r b)) := by
    intro r b
    have hr : r = 0 ∨ r = 1 ∨ r = 2 ∨ r = 3 ∨ r = 4 ∨ r = 5 ∨ r = 6 ∨ r = 7 := by revert r; decide
    rcases hr with rfl | rfl | rfl | rfl | rfl | rfl | rfl | rfl <;> cases b <;> rfl
  cases s.dbSample
  · rfl
  · simpa using key s.dbReg s.buttonIn

theorem runFormat_trg (s : State) :
    runFormat .trg s = .next (s.writeTrigger (if s.triggerIn then saturatingSucc s.trgCount else 0)) := by
  simp only [runFormat, State.key, decode_trg]
  cases s.triggerIn <;> rfl

theorem writeController_self {s : State} {c : CtlState} (h : s.ctlState = c) : s.writeController c s.bitCounter = s := by
  subst h; rfl

theorem runFormat_ctl (s : State) :
    runFormat .ctl s = .next (s.writeController s.nextCtlState s.nextBitCounter) := by
  simp only [runFormat, State.key, decode_ctl]
  cases h : s.ctlState
  · simp [exec, execCtlIdle, State.nextCtlState, State.nextBitCounter, h]
  · simp [exec, execCtlStart, State.nextCtlState, State.nextBitCounter, h]
  · cases hc : s.encCC
    · simp [exec, execCtlTransmit, State.nextCtlState, State.nextBitCounter, h, hc, writeController_self h]
    · cases hb : s.bitCounter == Config.bitCountMax <;>
        simp_all [exec, execCtlTransmit, State.nextCtlState, State.nextBitCounter]
  · simp [exec, execCtlStop, State.nextCtlState, State.nextBitCounter, h]

theorem runFormat_en (s : State) :
    runFormat .en s = .next (s.writeEnable (s.enCond || (!s.disCond && s.encEn))) := by
  simp only [runFormat, State.key, decode_en]
  cases s.enCond <;> cases s.disCond <;> simp [exec, execEnSet, execEnClear, execEnHold, State.writeEnable]

theorem runFormat_st (s : State) :
    runFormat .st s = .next (s.writeStarting (s.encStart || (!s.stClear && s.starting))) := by
  simp only [runFormat, State.key, decode_st]
  cases s.encStart <;> cases s.stClear <;> simp [exec, execStSet, execStClear, execStHold, State.writeStarting]

theorem runFormat_mode (s : State) :
    runFormat .mode s = .next (s.writeMode s.nextMode s.nextModePending) := by
  simp only [runFormat, State.key, decode_mode]
  cases hr : s.switchReq
  · simp [exec, execModeHold, State.nextMode, State.nextModePending, hr, State.writeMode]
  · cases hm : s.mode
    · simp [exec, execModeT2C, State.nextMode, State.nextModePending, hr, hm, Mode.code,
        show (Mode.triggered == Mode.continuous) = false from rfl]
    · cases hc : s.ctlState <;>
        simp [exec, execModeC2T, execModeDefer, State.nextMode, State.nextModePending, hr, hm, hc, Mode.code] <;> rfl

/-- A legal state steps, to `S(t+1)` in closed form. -/
theorem step_of_legal {s : State} (h : s.Legal) : step s = .next s.succ := by
  simp only [step, tickStep, validated_of_legal h, andThen_next, runFormat_tb, runFormat_enc, runFormat_db, runFormat_trg,
    runFormat_ctl, runFormat_en, runFormat_st, runFormat_mode, commit]
  unfold State.succ State.encEnabledWrite State.dbAdvance
  cases s.encEn <;> simp

/-- Everything a step that answers a next state can do. -/
theorem step_eq_next {s t : State} (h : step s = .next t) : s.Legal ∧ t = s.succ := by
  have hl : s.Legal := by
    obtain ⟨u, hu, -⟩ := andThen_eq_next (o := validated s) h
    exact (validated_eq_next hu).2
  refine ⟨hl, ?_⟩
  rw [step_of_legal hl] at h
  cases h
  rfl

/-- The operation a format runs on a tick exists, and it answers a next state. -/
theorem runFormat_selected (f : Format) (s : State) :
    ∃ i t, decode f (s.key f) = .ok i ∧ exec i s = .next t ∧ runFormat f s = .next t := by
  have h : ∃ t, runFormat f s = .next t := by
    cases f
    · exact ⟨_, runFormat_tb s⟩
    · exact ⟨_, runFormat_enc s⟩
    · exact ⟨_, runFormat_db s⟩
    · exact ⟨_, runFormat_trg s⟩
    · exact ⟨_, runFormat_ctl s⟩
    · exact ⟨_, runFormat_en s⟩
    · exact ⟨_, runFormat_st s⟩
    · exact ⟨_, runFormat_mode s⟩
  obtain ⟨t, ht⟩ := h
  cases hd : decode f (s.key f) with
  | error e => simp [runFormat, hd] at ht
  | ok i => exact ⟨i, t, rfl, by simpa [runFormat, hd] using ht, ht⟩

@[simp] theorem runTicks_zero (s : State) : runTicks 0 s = .next s := rfl

theorem runTicks_succ_of_legal {s : State} (h : s.Legal) (k : Nat) : runTicks (k + 1) s = runTicks k s.succ := by
  simp only [runTicks, step_of_legal h, andThen_next]

end Sys2Proof.Machine
end

