-- ==== Sys2Proof/Laws/Run.lean ====
section
/-! SUPPORT. Laws/Run: the inputs ahead of a state, and runs of several ticks. -/

namespace Sys2Proof.Machine

theorem inputWord_eq_inputAfter (s : State) : s.inputWord = s.inputAfter 0 := by
  unfold State.inputWord State.inputAfter dropTicks
  rfl

theorem buttonIn_eq_buttonAfter (s : State) : s.buttonIn = s.buttonAfter 0 := by
  simp only [State.buttonIn, State.buttonAfter, inputWord_eq_inputAfter]

theorem triggerIn_eq_triggerAfter (s : State) : s.triggerIn = s.triggerAfter 0 := by
  simp only [State.triggerIn, State.triggerAfter, inputWord_eq_inputAfter]

/-- One tick uses up one input word. -/
theorem succ_inputAfter (s : State) (k : Nat) : s.succ.inputAfter k = s.inputAfter (k + 1) := by
  simp only [State.inputAfter, State.succ, dropTicks, Nat.add_assoc, Nat.add_comm 1 k]

theorem succ_buttonAfter (s : State) (k : Nat) : s.succ.buttonAfter k = s.buttonAfter (k + 1) := by
  simp only [State.buttonAfter, succ_inputAfter]

theorem succ_triggerAfter (s : State) (k : Nat) : s.succ.triggerAfter k = s.triggerAfter (k + 1) := by
  simp only [State.triggerAfter, succ_inputAfter]

/-- A run of `j + k` ticks is a run of `j` and then one of `k`. -/
theorem runTicks_add {s t : State} (j k : Nat) (h : runTicks j s = .next t) : runTicks (j + k) s = runTicks k t := by
  induction j generalizing s with
  | zero => cases h; rw [Nat.zero_add]
  | succ j ih =>
    obtain ⟨u, hu, hj⟩ := andThen_eq_next (o := step s) h
    rw [Nat.succ_add]
    simp only [runTicks, hu, andThen_next]
    exact ih hj

/-- A run of one more tick ends where the last step ends. -/
theorem runTicks_succ_last {s t : State} {j : Nat} (h : runTicks j s = .next t) : runTicks (j + 1) s = step t := by
  rw [runTicks_add j 1 h]
  show andThen (step t) (runTicks 0) = step t
  cases step t <;> rfl

/-- A schedule of one run holds its word for the whole of its count. -/
theorem dropTicks_run {k n : Nat} (w : InputWord) (h : k < n) : dropTicks k [⟨n, w⟩] = [⟨n - k, w⟩] := by
  induction k generalizing n with
  | zero => rfl
  | succ k ih =>
    have h1 : ¬ n ≤ 1 := by omega
    simp only [dropTicks, nextSchedule, h1, if_false, ih (show k < n - 1 by omega)]
    rw [show n - 1 - k = n - (k + 1) by omega]

theorem inputAfter_run {s : State} {k n : Nat} {w : InputWord} (hs : s.schedule = [⟨n, w⟩]) (h : k < n) :
    s.inputAfter k = w := by
  simp only [State.inputAfter, hs, dropTicks_run w h]

end Sys2Proof.Machine
end

