-- ==== Sys2Proof/Tests/Slice0.lean ====
section
/-! SUPPORT. Tests/Slice0: the refusals of ill-formed terms, every operation's decoding from words written out from
30_encoding.md R57 to R66, one-tick vectors of 95_test_vectors.md with the values that file gives, and for every obligation
with hypotheses a concrete state that meets them. -/

namespace Sys2Proof.Tests

open Sys2Proof.Machine

/-! ## Ill-formed terms are refused -/

theorem test_key_too_wide : Key.wf .tb 0b00100 = false ∧ decode .tb 0b00100 = .error .keyTooWide := by decide
theorem test_key_reserved : Key.wf .enc 0b1101 = false ∧ decode .enc 0b1101 = .error .reservedKey := by decide
theorem test_key_reserved_frozen : Key.wf .enc 0b0111 = false ∧ decode .enc 0b0111 = .error .reservedKey := by decide
theorem test_reserved_code : EncState.ofCode 0b101 = none := by decide
theorem test_frozen_admits_no_reserved_code : Instr.admits .encFrozen 0b00110 = false := by decide
theorem test_line_count : ProgramLine.wf ⟨0, 1, 0⟩ = false := by decide
theorem test_line_button : ProgramLine.wf ⟨1, 2, 0⟩ = false := by decide
theorem test_line_trigger : ProgramLine.wf ⟨1, 0, 2⟩ = false := by decide
theorem test_run_count : EncodedRun.wf ⟨0, 3⟩ = false := by decide
theorem test_run_word : EncodedRun.wf ⟨1, 4⟩ = false := by decide
theorem test_input_run : InputRun.wf ⟨0, 0b00⟩ = false := by decide

/-! ## Every operation's words, from 30_encoding.md R57 to R64 -/

theorem test_decode_tb :
    decode .tb 0b00 = .ok .tbCount ∧ decode .tb 0b01 = .ok .tbCount ∧ decode .tb 0b11 = .ok .tbHalf ∧
    decode .tb 0b10 = .ok .tbCycle := by decide
theorem test_decode_enc :
    decode .enc 0b0000 = .ok .encFrozen ∧ decode .enc 0b0100 = .ok .encFrozen ∧ decode .enc 0b1000 = .ok .encIdle ∧
    decode .enc 0b1001 = .ok .encWaitStart ∧ decode .enc 0b1010 = .ok .encStartBit ∧
    decode .enc 0b1011 = .ok .encBitEncode ∧ decode .enc 0b1100 = .ok .encStopBit := by decide
theorem test_decode_db :
    decode .db 0b00000 = .ok .dbWait ∧ decode .db 0b01111 = .ok .dbWait ∧ decode .db 0b10000 = .ok .dbR0xx0 ∧
    decode .db 0b10110 = .ok .dbR0xx0 ∧ decode .db 0b10001 = .ok .dbR0001 ∧ decode .db 0b10011 = .ok .dbR0011 ∧
    decode .db 0b10101 = .ok .dbR0101 ∧ decode .db 0b10111 = .ok .dbR0111 ∧ decode .db 0b11001 = .ok .dbR1xx1 ∧
    decode .db 0b11111 = .ok .dbR1xx1 ∧ decode .db 0b11110 = .ok .dbR1110 ∧ decode .db 0b11100 = .ok .dbR1100 ∧
    decode .db 0b11010 = .ok .dbR1010 ∧ decode .db 0b11000 = .ok .dbR1000 := by decide
theorem test_decode_trg :
    decode .trg 0b10000 = .ok .trgHigh ∧ decode .trg 0b11111 = .ok .trgHigh ∧ decode .trg 0b00000 = .ok .trgLow ∧
    decode .trg 0b01101 = .ok .trgLow := by decide
theorem test_decode_ctl :
    decode .ctl 0b00 = .ok .ctlIdle ∧ decode .ctl 0b01 = .ok .ctlStart ∧ decode .ctl 0b10 = .ok .ctlTransmit ∧
    decode .ctl 0b11 = .ok .ctlStop := by decide
theorem test_decode_en :
    decode .en 0b10 = .ok .enSet ∧ decode .en 0b11 = .ok .enSet ∧ decode .en 0b01 = .ok .enClear ∧
    decode .en 0b00 = .ok .enHold := by decide
theorem test_decode_st :
    decode .st 0b10 = .ok .stSet ∧ decode .st 0b11 = .ok .stSet ∧ decode .st 0b01 = .ok .stClear ∧
    decode .st 0b00 = .ok .stHold := by decide
theorem test_decode_mode :
    decode .mode 0b000 = .ok .modeHold ∧ decode .mode 0b101 = .ok .modeHold ∧ decode .mode 0b010 = .ok .modeT2C ∧
    decode .mode 0b011 = .ok .modeT2C ∧ decode .mode 0b111 = .ok .modeC2T ∧ decode .mode 0b110 = .ok .modeDefer := by
  decide

/-- The host's two questions (log 7), on words the bare reading settles. -/
theorem test_table_word :
    decodeTableWord 8 0b10 = some .ctlTransmit ∧ decodeTableWord 8 0b110 = some .modeDefer ∧
    decodeTableWord 8 0b1011 = some .encBitEncode ∧ decodeTableWord 8 0b11010 = some .dbR1010 ∧
    decodeTableWord 8 0b1101 = none ∧ decodeTableWord 8 32 = none := by decide

/-- The operation a format runs on the next tick. -/
def selects (f : Format) (k : Key) : Bool := (State.reset.placeKey f k).key f == k && (State.reset.placeKey f k).schedule != []

theorem test_place_tb : selects .tb 0b00 && selects .tb 0b01 && selects .tb 0b10 && selects .tb 0b11 := by decide
theorem test_place_en : selects .en 0b00 && selects .en 0b01 && selects .en 0b10 && selects .en 0b11 := by decide
theorem test_place_st : selects .st 0b00 && selects .st 0b01 && selects .st 0b10 := by decide
theorem test_place_word :
    (State.reset.withFetchWord 8 0b1011).key .enc = 0b1011 ∧ (State.reset.withFetchWord 8 0b11010).key .db = 0b11010 ∧
    (State.reset.withFetchWord 8 0b110).key .mode = 0b110 ∧ (State.reset.withFetchWord 8 0b10).key .ctl = 0b10 := by decide

/-! ## Configuration (95_test_vectors.md section 2.10) -/

theorem test_boot_smallest : boot 460800 = .next (State.resetAt 460800) := by rfl
theorem test_boot_too_small : boot 460799 = .fault (.halfBitTooSmall 460799 1) := by rfl
theorem test_boot_one : boot 1 = .fault (.halfBitTooSmall 1 0) := by rfl
theorem test_boot_zero : boot 0 = .fault (.clkNotPositiveInteger 0) := by rfl
/-- 12 500 000.5 Hz. -/
theorem test_boot_fraction : boot ⟨25000001, 2, by decide, by decide⟩ =
    .fault (.clkNotPositiveInteger ⟨25000001, 2, by decide, by decide⟩) := by rfl
theorem test_half_bit : Config.halfBit 12000000 = 52 ∧ Config.halfBit 48000000 = 208 ∧ Config.tbCountBits 12000000 = 6 := by
  decide
theorem test_frame_ticks : Config.frameTicks 12000000 = 1872 ∧ Config.framePeriod 12000000 = 1976 := by decide

/-! ## One-tick vectors (95_test_vectors.md sections 2.1 to 2.9) -/

/-- The reset state at 12 MHz with the two inputs of tick 0 given. -/
def tick0 (b g : Bool) : State := State.reset.withInput b g

/-- The reset state at 12 MHz with both inputs low. -/
abbrev q : State := tick0 false false

/-- What `f` reads in the next state. -/
def next {α : Type} (s : State) (f : State → α) : Option α :=
  match step s with
  | .next t => some (f t)
  | .fault _ => none
  | .refused _ => none

/-- V-TB-1. -/
theorem test_tb_count : next { q with tbCount := 7, tbClk := true } (fun t => (t.tbCount, t.tbClk)) = some (8, true) := by decide
/-- V-TB-2. -/
theorem test_tb_half : next { q with tbCount := 51, tbClk := true } (fun t => (t.tbCount, t.tbClk)) = some (0, false) := by
  decide
/-- V-TB-3. -/
theorem test_tb_cycle : next { q with tbCount := 51, tbClk := false } (fun t => (t.tbCount, t.tbClk)) = some (0, true) := by
  decide

/-- A boundary tick of a frame: TRANSMIT, the encoder enabled, the timebase about to flip to 1. -/
def boundary (e : EncState) (i : BitVec 5) : State :=
  { q with ctlState := .transmit, encState := e, encEn := true, tbCount := 51, encClkDly := true, outPrev := true,
           bitCounter := i }

/-- What an encoder vector gives. -/
def encView (t : State) : EncState × Bool × Bool × Bool × BitVec 5 :=
  (t.encState, t.encBit, t.encClkDly, t.encStopPend, t.bitCounter)

/-- V-ENC-1. -/
theorem test_enc_frozen : next { boundary .bitEncode 1 with encEn := false, encBit := true } encView =
    some (.bitEncode, true, true, false, 1) := by decide
/-- V-ENC-2. -/
theorem test_enc_idle_start : next { q with encEn := true, ctlState := .start, tbCount := 10, tbClk := true } encView =
    some (.waitStart, false, true, false, 0) := by decide
/-- V-ENC-3. -/
theorem test_enc_idle_stays : next { q with encEn := true, tbCount := 51 } encView =
    some (.idle, false, false, false, 0) := by decide
/-- V-ENC-4. -/
theorem test_enc_wait_stays : next { boundary .waitStart 0 with tbCount := 10, encClkDly := false } encView =
    some (.waitStart, false, false, false, 0) := by decide
/-- V-ENC-5. -/
theorem test_enc_wait_boundary : next { boundary .waitStart 0 with encClkDly := false } encView =
    some (.startBit, false, false, false, 0) := by decide
/-- V-ENC-6. -/
theorem test_enc_start_bit_stays : next { boundary .startBit 0 with tbCount := 20, tbClk := true } encView =
    some (.startBit, false, true, false, 0) := by decide
/-- V-ENC-7. -/
theorem test_enc_start_bit_end : next (boundary .startBit 0) encView = some (.bitEncode, true, false, false, 1) := by decide
/-- V-ENC-8. -/
theorem test_enc_bit_encode_boundary : next { boundary .bitEncode 1 with encBit := true } encView =
    some (.bitEncode, false, false, false, 2) := by decide
/-- V-ENC-10. -/
theorem test_enc_bit_encode_stop : next (boundary .bitEncode 16) (fun t => (encView t, t.ctlState)) =
    some ((.stopBit, false, false, false, 0), .stop) := by decide
/-- V-ENC-11. -/
theorem test_enc_stop_bit_end : next { boundary .stopBit 0 with ctlState := .stop } (fun t => (encView t, t.ctlState)) =
    some ((.idle, false, false, false, 0), .idle) := by decide
/-- V-ENC-12. -/
theorem test_enc_stop_bit_stays :
    next { boundary .stopBit 0 with ctlState := .stop, tbCount := 30, tbClk := true } (fun t => (encView t, t.ctlState)) =
    some ((.stopBit, false, true, false, 0), .stop) := by decide
/-- V-ENC-13, a state no run reaches: the letter of R88. -/
theorem test_enc_stop_latch : next { boundary .bitEncode 5 with encBit := true, encStopPend := true } encView =
    some (.stopBit, false, false, false, 6) := by decide

/-- The debounce register and counter after a tick with the button at `b`. -/
def db (b : Bool) (c : BitVec 8) (r : BitVec 3) : Option (BitVec 3 × BitVec 8) :=
  next { tick0 b false with dbCount := c, dbReg := r } (fun t => (t.dbReg, t.dbCount))

/-- V-DB-17. -/
theorem test_db_wait : db true 100 0b011 = some (0b011, 101) := by decide
/-- V-DB-1 and V-DB-7. -/
theorem test_db_r0xx0 : db false 127 0b000 = some (0b000, 128) ∧ db false 127 0b011 = some (0b000, 128) := by decide
/-- V-DB-2. -/
theorem test_db_r0001 : db true 127 0b000 = some (0b001, 128) := by decide
/-- V-DB-4. -/
theorem test_db_r0011 : db true 127 0b001 = some (0b010, 128) := by decide
/-- V-DB-6. -/
theorem test_db_r0101 : db true 127 0b010 = some (0b011, 128) := by decide
/-- V-DB-8. -/
theorem test_db_r0111 : db true 127 0b011 = some (0b111, 128) := by decide
/-- V-DB-10 and V-DB-16. -/
theorem test_db_r1xx1 : db true 127 0b100 = some (0b111, 128) ∧ db true 127 0b111 = some (0b111, 128) := by decide
/-- V-DB-18, the counter wrapping. -/
theorem test_db_r1110 : db false 255 0b111 = some (0b110, 0) := by decide
/-- V-DB-13. -/
theorem test_db_r1100 : db false 127 0b110 = some (0b101, 128) := by decide
/-- V-DB-11. -/
theorem test_db_r1010 : db false 127 0b101 = some (0b100, 128) := by decide
/-- V-DB-9. -/
theorem test_db_r1000 : db false 127 0b100 = some (0b000, 128) := by decide

/-- V-TRG-2 and V-TRG-4. -/
theorem test_trg_high : next { tick0 false true with trgCount := 9 } (·.trgCount) = some 10 ∧
    next { tick0 false true with trgCount := 15 } (·.trgCount) = some 15 := by decide
/-- V-TRG-6 to V-TRG-10. -/
theorem test_trg_low : next { q with trgCount := 11 } (·.trgCount) = some 0 ∧
    ([10, 11, 12, 13, 14] : List (BitVec 4)).map (fun c => ({ q with trgCount := c } : State).trigger) =
      [false, true, true, true, false] := by decide

/-- What a controller vector gives. -/
def ctlView (t : State) : CtlState × BitVec 5 × EncState := (t.ctlState, t.bitCounter, t.encState)

/-- V-CTL-1. -/
theorem test_ctl_idle_trigger : next { q with encEn := true, trgCount := 12 } ctlView = some (.start, 0, .idle) := by decide
/-- V-CTL-2. -/
theorem test_ctl_idle_rejected : next { q with encEn := true, trgCount := 14 } ctlView = some (.idle, 0, .idle) := by decide
/-- V-CTL-4. -/
theorem test_ctl_start : next { q with encEn := true, ctlState := .start, bitCounter := 7 } ctlView =
    some (.transmit, 0, .waitStart) := by decide
/-- V-CTL-6. -/
theorem test_ctl_transmit_last_bit : next { boundary .bitEncode 15 with encBit := true } ctlView =
    some (.transmit, 16, .bitEncode) := by decide
/-- V-CTL-10. -/
theorem test_ctl_transmit_no_pulse :
    next { boundary .bitEncode 5 with encBit := true, tbCount := 20, encClkDly := false } ctlView =
    some (.transmit, 5, .bitEncode) := by decide
/-- V-CTL-11. -/
theorem test_ctl_stop : next { q with ctlState := .stop, encState := .stopBit, encEn := true, tbCount := 51 } ctlView =
    some (.idle, 0, .idle) := by decide
/-- V-CTL-12. -/
theorem test_ctl_stop_frozen : next { q with ctlState := .stop, encState := .stopBit, tbCount := 51 } ctlView =
    some (.stop, 0, .stopBit) := by decide

/-- A data bit 1 in its first half, in TRIGGERED mode. -/
def highBit (en prev : Bool) : State :=
  { q with ctlState := .transmit, encState := .bitEncode, encEn := en, encBit := true, encClkDly := true, outPrev := prev,
           bitCounter := 1, tbCount := 1, tbClk := true }

/-- V-EN-1. -/
theorem test_en_set_idle : next q (·.encEn) = some true := by decide
/-- V-EN-5. -/
theorem test_en_set_trigger : next { highBit false true with trgCount := 12 } (·.encEn) = some true := by decide
/-- V-EN-2. -/
theorem test_en_clear : next (highBit true false) (·.encEn) = some false := by decide
/-- V-EN-3. -/
theorem test_en_hold : next (highBit true true) (·.encEn) = some true := by decide
/-- V-EN-10. -/
theorem test_en_hold_frozen :
    next { highBit false false with encBit := false, bitCounter := 2, trgCount := 10 } (·.encEn) = some false := by decide
/-- V-ST-1 and V-EN-8. -/
theorem test_st_set : next { q with ctlState := .start } (fun t => (t.encEn, t.starting)) = some (true, true) := by decide
/-- V-EN-6. -/
theorem test_st_clear : next { highBit true false with encState := .startBit, starting := true, bitCounter := 0 }
    (fun t => (t.encEn, t.starting)) = some (true, false) := by decide
/-- V-ST-4. -/
theorem test_st_hold : next { q with encEn := true, starting := true } (·.starting) = some true := by decide

/-- What a mode vector gives. -/
def modeView (t : State) : Mode × Bool := (t.mode, t.modePending)

/-- V-MODE-1. -/
theorem test_mode_hold : next q modeView = some (.triggered, false) := by decide
/-- V-MODE-2. -/
theorem test_mode_t2c : next { q with btnPrev := true, ctlState := .transmit, encState := .bitEncode, bitCounter := 3 }
    (fun t => (modeView t, t.encEn)) = some ((.continuous, false), false) := by decide
/-- V-MODE-6. -/
theorem test_mode_c2t :
    next { q with mode := .continuous, modePending := true, ctlState := .stop, encState := .stopBit, encEn := true } modeView =
    some (.triggered, false) := by decide
/-- V-MODE-3. -/
theorem test_mode_defer :
    next { boundary .bitEncode 3 with mode := .continuous, btnPrev := true } modeView = some (.continuous, true) := by decide
/-- V-MODE-11. -/
theorem test_mode_defer_idle : next { q with mode := .continuous, btnPrev := true, encEn := true }
    (fun t => (modeView t, t.ctlState)) = some ((.continuous, true), .start) := by decide

/-- V-RST-3, with both inputs high. -/
theorem test_reset_tick : step (tick0 true true) = .next
    { State.reset with tbCount := 1, dbCount := 1, encEn := true, trgCount := 1, tick := 1 } := by rfl

/-! ## Programs (30_encoding.md R70) -/

theorem test_parse : parseProgram "10 B=0 T=0\n12 B=0 T=1 ; pulse\n".toList = some [⟨10, 0, 0⟩, ⟨12, 0, 1⟩] := by decide
/-- Leading zeros, the model's choice (log 11). -/
theorem test_parse_leading_zeros : parseProgram "010 B=01 T=000".toList = some [⟨10, 1, 0⟩] := by decide
theorem test_parse_refused : parseProgram "10 B=0".toList = none := by decide
theorem test_encode_program : encodeProgram [⟨10, 0, 0⟩, ⟨12, 0, 1⟩, ⟨3, 1, 0⟩] = [⟨10, 0b00⟩, ⟨12, 0b01⟩, ⟨3, 0b10⟩] := by
  decide
theorem test_load_refused : loadProgram [⟨10, 0, 2⟩] State.reset = .refused .illegalProgram := by rfl

/-! ## A state for every obligation with hypotheses -/

/-- `N = 2`, the encoder enabled, both inputs low for four ticks. -/
abbrev w : State := { State.resetAt 460800 with encEn := true, tick := 1, schedule := [⟨4, 0b00⟩] }

/-- A release on this tick. -/
abbrev wRelease : State := { w with btnPrev := true }

/-- A frame state on a mid-period tick of the boundary grid, or on a boundary where `c` is 1. -/
abbrev wFrame (c : Nat) (ctl : CtlState) (e : EncState) (i : BitVec 5) : State :=
  { w with ctlState := ctl, encState := e, bitCounter := i, tbCount := c }

/-- The data state at `N = 2` with a rising line. -/
abbrev wRise (latch : Bool) : State :=
  { wFrame 0 .transmit .bitEncode 1 with encBit := true, encClkDly := true, tbClk := true, starting := latch }

theorem witness_LegalConfigurations : (0 < 460800 ∧ Config.Legal 460800) ∧ 0 < 460799 ∧ ¬ Config.Legal 460799 := by decide
theorem witness_ConfigErrorBeforeTickZero :
    (¬ ∃ c : Nat, 0 < c ∧ (0 : Rat) = c) ∧ (0 < 460799 ∧ 460799 < 460800) ∧ 460800 ≤ 460800 ∧ w.Legal := by
  refine ⟨?_, by decide, by decide, by decide⟩
  rintro ⟨c, h, e⟩
  have : c = 0 := by exact_mod_cast e.symm
  omega
theorem witness_ResetState : State.resetAt 460800 = State.resetAt 460800 ∨ State.resetAt 460800 = State.reset := Or.inl rfl
theorem witness_ResetState_reference : State.reset = State.resetAt 460800 ∨ State.reset = State.reset := Or.inr rfl
theorem witness_TickZero : Config.Legal 460800 ∧ ∀ r ∈ ([⟨1, 0b11⟩, ⟨2, 0b00⟩] : List InputRun), 1 ≤ r.count := by decide
theorem witness_DecodeEncodeAgree :
    Instr.admits .encFrozen 0b00100 = true ∧ decode .enc 0b00100 = .ok .encFrozen ∧ Instr.admits .dbWait 0b01111 = true := by
  decide
theorem witness_DecodeEncodeAgree_state : Instr.encFrozen.format = .enc ∧ Instr.encFrozen.matchesKey (State.reset.key .enc) := by
  decide
theorem witness_ReservedKeysRefused : Key.fits .enc 0b1101 = true ∧ Key.fits .enc 0b1100 = true ∧ Format.tb ≠ .enc := by decide
theorem witness_StepRunsSelectedOperations : w.Legal ∧ wRelease.Legal ∧ (wFrame 1 .transmit .bitEncode 16).Legal := by decide
theorem witness_OperationsWriteTheirFormatOnly : Format.tb ≠ Instr.encIdle.format := by decide
theorem witness_EncoderOperations :
    false = (if (wFrame 1 .transmit .bitEncode 16).tbCC then false
      else (wFrame 1 .transmit .bitEncode 16).encStopPend || (wFrame 1 .transmit .bitEncode 16).encStop) := by decide
theorem witness_ControllerOperations :
    (wFrame 0 .transmit .bitEncode 3).encCC = false ∧
    ((wFrame 1 .transmit .bitEncode 15).encCC = true ∧ (wFrame 1 .transmit .bitEncode 15).bitCounter ≠ 16) ∧
    (wFrame 1 .transmit .bitEncode 16).encCC = true ∧ (wFrame 1 .transmit .bitEncode 16).bitCounter = 16 := by decide
theorem witness_OutputsReadRegistersOnly : w.sameRegisters { w with tick := 7, schedule := [⟨1, 0b11⟩] } := by
  unfold State.sameRegisters; decide
theorem witness_EncoderControllerPulses :
    (wFrame 1 .transmit .bitEncode 16).encStop = true ∧ (wFrame 1 .transmit .bitEncode 16).encCC = true := by decide
theorem witness_PayloadBitOrder : (wFrame 0 .transmit .bitEncode 15).bitCounter.toNat ≤ 15 ∧
    16 ≤ (wFrame 0 .transmit .bitEncode 16).bitCounter.toNat := by decide
theorem witness_LegalStatesRunForever : State.Legal { w with tbCount := 1, bitCounter := 16 } := by decide
theorem witness_CoherenceKept : (wFrame 1 .transmit .bitEncode 16).Coherent ∧
    step (wFrame 1 .transmit .bitEncode 16) = .next (wFrame 1 .transmit .bitEncode 16).succ :=
  ⟨by decide, step_of_legal (by decide)⟩
theorem witness_TimebasePhaseKept : ({ w with tbCount := 1, dbCount := 1 } : State).Legal ∧
    ({ w with tbCount := 1, dbCount := 1 } : State).InPhase ∧
    step { w with tbCount := 1, dbCount := 1 } = .next ({ w with tbCount := 1, dbCount := 1 } : State).succ :=
  ⟨by decide, by decide, step_of_legal (by decide)⟩
theorem witness_ResetCoherentInPhase : Config.Legal 12000000 ∧ ∀ r ∈ ([⟨5, 0b10⟩] : List InputRun), 1 ≤ r.count := by decide
theorem witness_ConfigurationFixed : runTicks 1 w = .next w.succ := by
  rw [runTicks_succ_of_legal (by decide)]; rfl
theorem witness_TimebaseNeverGated : w.Legal ∧ w.tbCount ≠ w.halfBit - 1 ∧
    ({ w with tbCount := 1 } : State).tbCount = w.halfBit - 1 ∧
    ({ wRelease with encEn := false } : State).Legal ∧ ({ wRelease with encEn := false } : State).tbCount = w.tbCount ∧
    step { wRelease with encEn := false } = .next ({ wRelease with encEn := false } : State).succ :=
  ⟨by decide, by decide, by decide, by decide, rfl, step_of_legal (by decide)⟩
theorem witness_TimebaseClosedForm : Config.Legal 460800 ∧ (2 = Config.halfBit 460800) ∧
    (5 = 2 - 1 + 2 * 2 * 0 + 4 ∧ 1 ≤ 4 ∧ 4 ≤ 2 * 2) ∧ (2 = 2 - 1 + 2 * 2 * 0 + 1) := by decide
theorem witness_FrozenEncoderHolds : ({ wFrame 1 .transmit .bitEncode 3 with encEn := false } : State).Legal ∧
    ({ wFrame 1 .stop .stopBit 0 with encEn := false } : State).Legal := by decide
theorem witness_EnabledEncoderStep :
    (wFrame 1 .start .idle 0).Legal ∧ (wFrame 1 .transmit .waitStart 0).Legal ∧ (wFrame 1 .transmit .startBit 0).Legal ∧
    (wFrame 1 .transmit .bitEncode 16).Legal ∧ (wFrame 1 .stop .stopBit 0).Legal ∧ (wFrame 0 .stop .stopBit 0).Legal ∧
    (wFrame 1 .stop .stopBit 0).tbCC = true ∧ (wFrame 0 .stop .stopBit 0).tbCC = false ∧ w.encEn = true := by decide
theorem witness_StopLatchNeverSet : (wFrame 1 .transmit .bitEncode 16).encStopPend = false ∧
    step (wFrame 1 .transmit .bitEncode 16) = .next (wFrame 1 .transmit .bitEncode 16).succ :=
  ⟨rfl, step_of_legal (by decide)⟩

/-- A boundary of a CONTINUOUS frame. -/
abbrev wBoundary (ctl : CtlState) (e : EncState) (i : BitVec 5) : State := { wFrame 1 ctl e i with mode := .continuous }

theorem witness_SymbolWaveform_half_bit : 4 = 2 * (wBoundary .stop .stopBit 0).halfBit := by decide
theorem witness_SymbolWaveform_start_bit :
    (wBoundary .transmit .waitStart 0).Legal ∧ (wBoundary .transmit .waitStart 0).tbCC = true ∧
    (∀ j, j ≤ 4 → (wBoundary .transmit .waitStart 0).enabledAfter j = true) ∧
    (wBoundary .transmit .waitStart 0).succ.encState = .startBit := by decide
theorem witness_SymbolWaveform_data_bit :
    (wBoundary .transmit .startBit 0).Legal ∧ (wBoundary .transmit .startBit 0).tbCC = true ∧
    (∀ j, j ≤ 4 → (wBoundary .transmit .startBit 0).enabledAfter j = true) ∧
    (wBoundary .transmit .startBit 0).succ.encState = .bitEncode := by decide
theorem witness_SymbolWaveform_stop_bit :
    (wBoundary .transmit .bitEncode 16).Legal ∧ (wBoundary .transmit .bitEncode 16).tbCC = true ∧
    (∀ j, j ≤ 4 → (wBoundary .transmit .bitEncode 16).enabledAfter j = true) ∧
    (wBoundary .transmit .bitEncode 16).succ.encState = .stopBit := by decide
theorem witness_SymbolWaveform_idle :
    (wFrame 1 .idle .idle 0).Legal ∧ (wFrame 1 .idle .idle 0).tbCC = true ∧
    (∀ j, j ≤ 4 → (wFrame 1 .idle .idle 0).enabledAfter j = true) ∧ (wFrame 1 .idle .idle 0).succ.encState = .idle := by decide
theorem witness_DebounceStep :
    ({ tick0 true false with dbCount := 127 } : State).Legal ∧
    ({ tick0 true false with dbCount := 127 } : State).buttonIn = true ∧
    ({ tick0 false false with dbCount := 255 } : State).buttonIn = false ∧ (127 : BitVec 8).toNat % 128 = 127 ∧
    (255 : BitVec 8).toNat % 128 = 127 ∧ (126 : BitVec 8).toNat % 128 ≠ 127 := by decide
theorem witness_DebouncedValueChanges_rise :
    step { tick0 true false with dbCount := 127, dbReg := 0b011 } =
      .next ({ tick0 true false with dbCount := 127, dbReg := 0b011 } : State).succ ∧
    ({ tick0 true false with dbCount := 127, dbReg := 0b011 } : State).succ.dbOut = true :=
  ⟨step_of_legal (by decide), by decide⟩
theorem witness_DebouncedValueChanges_fall :
    step { q with dbCount := 127, dbReg := 0b100 } = .next ({ q with dbCount := 127, dbReg := 0b100 } : State).succ ∧
    ({ q with dbCount := 127, dbReg := 0b100 } : State).succ.dbOut = false := ⟨step_of_legal (by decide), by decide⟩

/-- A button at rest in the other value, held at `b` from a sample tick on. -/
abbrev wSamples (b : Bool) : State :=
  { w with dbCount := 127, dbReg := if b then 0b000 else 0b111, schedule := [⟨400, bit b ++ 0#1⟩] }

theorem witness_FourSamplesFlipTheOutput (b : Bool) : (wSamples b).Legal ∧ (wSamples b).dbCount.toNat % 128 = 127 ∧
    (wSamples b).dbReg = (if b then 0b000 else 0b111) ∧ ∀ k, k ≤ 384 → (wSamples b).buttonAfter k = b := by
  refine ⟨by revert b; decide, by revert b; decide, rfl, ?_⟩
  intro k hk
  rw [State.buttonAfter, inputAfter_run (s := wSamples b) rfl (show k < 400 by omega)]
  revert b; decide

theorem witness_DebouncerIndependent : w.dbCount = wRelease.dbCount ∧ w.dbReg = wRelease.dbReg ∧
    (w.dbSample = true → w.buttonIn = wRelease.buttonIn) ∧ step w = .next w.succ ∧ step wRelease = .next wRelease.succ :=
  ⟨rfl, rfl, fun _ => rfl, step_of_legal (by decide), step_of_legal (by decide)⟩
theorem witness_TriggerCounterStep : (tick0 false true).Legal ∧ (tick0 false true).triggerIn = true ∧ q.triggerIn = false ∧
    ({ q with trgCount := 11 } : State).trigger = true ∧ ({ q with trgCount := 13 } : State).trigger = true := by decide

/-- A pulse of `n` high ticks, then low. -/
abbrev wPulse (n : Nat) : State := { w with schedule := [⟨n, 0b01⟩, ⟨1, 0b00⟩] }

theorem witness_TriggerAcceptanceWindow : ∀ n ∈ [1, 10, 11, 13, 14, 16],
    (wPulse n).Legal ∧ (wPulse n).trgCount = 0 ∧ (∀ k, k < n → (wPulse n).triggerAfter k = true) ∧
    (wPulse n).triggerAfter n = false := by decide
theorem witness_TriggerAcceptanceWindow_zero : w.Legal ∧ w.trgCount = 0 ∧ (∀ k, k < 0 → w.triggerAfter k = true) ∧
    w.triggerAfter 0 = false := by decide
theorem witness_FrameMachineStep :
    (({ w with trgCount := 11 } : State).trigger = true ∧ w.ctlState = .idle) ∧ (wFrame 0 .start .idle 0).Legal ∧
    (wFrame 0 .transmit .bitEncode 3).encCC = false ∧ (wFrame 1 .transmit .bitEncode 15).encCC = true ∧
    (wFrame 1 .transmit .bitEncode 16).encCC = true ∧ (wFrame 1 .stop .stopBit 0).encCC = true ∧
    (wFrame 0 .stop .stopBit 0).encCC = false ∧ (wFrame 1 .stop .stopBit 0).Legal := by decide
theorem witness_StartBeginsTheFrame : (wFrame 1 .start .idle 0).Coherent ∧ (wFrame 1 .start .idle 0).ctlState = .start := by
  decide
theorem witness_CyclePulseLatchesPayloadBit :
    ∀ s ∈ [wFrame 1 .transmit .startBit 0, wFrame 1 .transmit .bitEncode 15, wFrame 1 .transmit .bitEncode 16],
      s.Coherent ∧ s.ctlState = .transmit ∧ s.encCC = true ∧ (s.bitCounter.toNat ≤ 15 ∨ s.bitCounter = 16) := by
  intro s hs
  rcases List.mem_cons.mp hs with rfl | hs
  · exact ⟨by decide, by decide, by decide, by decide⟩
  rcases List.mem_cons.mp hs with rfl | hs
  · exact ⟨by decide, by decide, by decide, by decide⟩
  · rw [List.mem_singleton.mp hs]
    exact ⟨by decide, by decide, by decide, by decide⟩
theorem witness_EdgesSeenOnFirstTick : ({ q with dbCount := 127, dbReg := 0b100 } : State).Legal := by decide
theorem witness_EnablePriority :
    (wRise false).Legal ∧ (wRise false).enCond = false ∧ (wRise false).disCond = true ∧ (wRise false).succ.encEn = false ∧
    ({ wRise false with trgCount := 12 } : State).enCond = true ∧ (wRise true).enCond = false ∧
    (wRise true).disCond = false := by decide
theorem witness_StartLatchStep :
    (wFrame 0 .start .idle 0).ctlState = .start ∧ (wRise true).Legal ∧ (wRise true).running = true ∧
    (wRise true).outRise = true ∧ (wRise true).encEn = true ∧ w.ctlState ≠ .start ∧ w.running = false := by decide
theorem witness_ModeRegisterStep :
    (w.Legal ∧ w.btnFall = false ∧ w.modePending = false) ∧ wRelease.btnFall = true ∧
    ({ wFrame 0 .stop .stopBit 0 with mode := .continuous, modePending := true } : State).Legal ∧
    ({ wFrame 0 .transmit .bitEncode 3 with mode := .continuous, btnPrev := true } : State).btnFall = true := by decide
theorem witness_SwitchToContinuousAtOnce : wRelease.Legal ∧ wRelease.mode = .triggered ∧ wRelease.switchReq = true ∧
    ({ wFrame 0 .transmit .bitEncode 3 with btnPrev := true, encEn := false } : State).switchReq = true := by decide
theorem witness_SimultaneousEvents_a : ({ wRise false with trgCount := 12 } : State).Legal ∧
    ({ wRise false with trgCount := 12 } : State).trigger = true ∧
    ({ wRise false with trgCount := 12 } : State).disCond = true := by decide
theorem witness_SimultaneousEvents_d : ({ wRelease with trgCount := 12 } : State).Legal ∧
    ({ wRelease with trgCount := 12 } : State).trigger = true ∧ ({ wRelease with trgCount := 12 } : State).btnFall = true := by
  decide
theorem witness_SimultaneousEvents_f :
    ({ wFrame 1 .stop .stopBit 0 with mode := .continuous, btnPrev := true } : State).encCC = true ∧
    ({ wFrame 1 .stop .stopBit 0 with mode := .continuous, btnPrev := true } : State).btnFall = true := by decide
theorem witness_ContinuousNeverFreezes : ({ wRise false with mode := .continuous } : State).Legal := by decide

/-- The first tick of a continuous frame period at `N = 2`, the button at rest for the whole of it. -/
abbrev wPeriod : State := { w with mode := .continuous, tbClk := true, schedule := [⟨76, 0b00⟩] }

theorem witness_ContinuousFramePeriod : wPeriod.FrameStart ∧ ∀ k, k < 38 * wPeriod.halfBit → wPeriod.buttonAfter k = false := by
  refine ⟨by decide, fun k hk => ?_⟩
  have hn : wPeriod.halfBit = 2 := by decide
  rw [State.buttonAfter, inputAfter_run (s := wPeriod) rfl (show k < 76 by omega)]
  rfl

theorem witness_QuietFromReset : Config.Legal 12000000 ∧ (∀ x ∈ ([⟨10000, 0b00⟩] : List InputRun), 1 ≤ x.count) ∧
    ∀ j, j < 10000 → ((State.resetAt 12000000).loadSchedule [⟨10000, 0b00⟩]).inputAfter j = 0b00 :=
  ⟨by decide, by decide, fun _ hj => inputAfter_run rfl hj⟩
theorem witness_QuietFromReset_leaves : step { wRelease with trgCount := 12 } = .next ({ wRelease with trgCount := 12 } : State).succ ∧
    ({ wRelease with trgCount := 12 } : State).succ.ctlState ≠ .idle ∧
    ({ wRelease with trgCount := 12 } : State).succ.mode ≠ .triggered := ⟨step_of_legal (by decide), by decide, by decide⟩
theorem witness_EveryInputScheduleRuns : w.Legal ∧ (∀ r ∈ ([⟨1, 3⟩, ⟨7, 0⟩] : List EncodedRun), 1 ≤ r.count ∧ r.word ≤ 3) ∧
    (∃ r ∈ ([⟨0, 3⟩] : List EncodedRun), r.count < 1 ∨ 3 < r.word) ∧
    ∃ r ∈ ([⟨1, 4⟩] : List EncodedRun), r.count < 1 ∨ 3 < r.word := by decide
theorem witness_UnreachableValuesRefused : Config.Legal w.clkHz ∧ ({ w with tbCount := 2 } : State).halfBit ≤ 2 ∧
    ({ w with bitCounter := 17 } : State).tbCount < w.halfBit ∧ 16 < ({ w with bitCounter := 17 } : State).bitCounter.toNat := by
  decide

end Sys2Proof.Tests
end

section
/-! PROOFS. Configuration and boot (00_scope.md R8): `N` as one quotient, the bound on `CLK_HZ`, and what the check and the boot
of a positive integer answer. -/

namespace Sys2Proof

theorem Config.halfBit_eq_div (c : Nat) : Config.halfBit c = c / 230400 :=
  Nat.div_div_eq_div_mul c 115200 2

theorem Config.legal_iff_clkHz (c : Nat) : Config.Legal c ↔ 460800 ≤ c := by
  rw [Config.Legal, Config.halfBit_eq_div]
  omega

namespace Machine

/-- A positive integer never raises cause 2, so `N` alone decides the check. -/
theorem configCheck_natCast {c : Nat} (hc : 0 < c) (k : Nat → Host.Outcome State Fault Refusal) :
    configCheck c k =
      if Config.halfBit c < 2 then .fault (.halfBitTooSmall c (Config.halfBit c)) else k c := by
  have hpositiveInteger : ¬ ((c : Rat).den ≠ 1 ∨ (c : Rat).num ≤ 0) := by
    simp only [Rat.den_natCast, Rat.num_natCast]
    omega
  rw [configCheck, if_neg hpositiveInteger, Rat.num_natCast, Int.toNat_natCast]

theorem boot_natCast_of_legal {c : Nat} (hN : Config.Legal c) : boot c = .next (State.resetAt c) := by
  have hbound : 460800 ≤ c := (Config.legal_iff_clkHz c).mp hN
  rw [boot, configCheck_natCast (by omega), if_neg (Nat.not_lt.mpr hN)]

theorem legal_of_boot_natCast {c : Nat} {t : State} (h : boot c = .next t) : Config.Legal c := by
  obtain ⟨-, -, hN, -⟩ := boot_eq_next h
  rwa [Rat.num_natCast, Int.toNat_natCast] at hN

theorem exists_boot_natCast_iff (c : Nat) : (∃ t, boot c = .next t) ↔ Config.Legal c :=
  ⟨fun ⟨_, h⟩ => legal_of_boot_natCast h, fun hN => ⟨_, boot_natCast_of_legal hN⟩⟩

/-- Settles O1: a boot answers a state exactly at `N >= 2`, and the bound on `CLK_HZ` is that bound through the quotient. -/
theorem legalConfigurations : Obligations.LegalConfigurations := by
  refine ⟨Config.halfBit_eq_div, fun c _ => exists_boot_natCast_iff c, fun c _ => ?_, ?_⟩
  · exact (exists_boot_natCast_iff c).trans (Config.legal_iff_clkHz c)
  · rw [Config.halfBit_eq_div]

end Machine
end Sys2Proof
end

section
/-! PROOFS. The outputs (10_state.md R18): which registers each of `encOut`, `running` and the three output ports reads. -/

namespace Sys2Proof.Machine

section
variable {s u : State}

/-- The encoder's line reads three of its registers (41_manchester_encoder.md R81). -/
theorem encOut_congr (hstate : s.encState = u.encState) (hbit : s.encBit = u.encBit)
    (hdly : s.encClkDly = u.encClkDly) : s.encOut = u.encOut := by
  rw [State.encOut, State.encOut, hstate, hbit, hdly]

theorem running_congr (hctl : s.ctlState = u.ctlState) : s.running = u.running := by
  rw [State.running, State.running, hctl]

theorem ledRun_congr (hctl : s.ctlState = u.ctlState) (hen : s.encEn = u.encEn) : s.ledRun = u.ledRun := by
  rw [State.ledRun, State.ledRun, running_congr hctl, hen]

theorem ledMode_congr (hmode : s.mode = u.mode) : s.ledMode = u.ledMode := by
  rw [State.ledMode, State.ledMode, hmode]

/-- Six registers determine the three ports (44_controller.md R146); `swoOut` is the encoder's line. -/
theorem outputs_congr (hstate : s.encState = u.encState) (hbit : s.encBit = u.encBit)
    (hdly : s.encClkDly = u.encClkDly) (hctl : s.ctlState = u.ctlState) (hen : s.encEn = u.encEn)
    (hmode : s.mode = u.mode) : s.outputs = u.outputs := by
  rw [State.outputs, State.outputs, State.swoOut, State.swoOut, encOut_congr hstate hbit hdly, ledRun_congr hctl hen,
    ledMode_congr hmode]

end

/-- Settles O19: equal registers agree in particular on the six that the outputs read. -/
theorem outputsReadRegistersOnly : Obligations.OutputsReadRegistersOnly := by
  intro s u hregs
  obtain ⟨-, -, hstate, hbit, hdly, -, -, -, -, hctl, -, hmode, -, hen, -, -, -⟩ := hregs
  exact outputs_congr hstate hbit hdly hctl hen hmode

end Sys2Proof.Machine
end

section
/-! PROOFS. The Timebase on one tick (40_timebase.md R71 to R76): its pulses, its two registers after a step, and the operation
its key selects. -/

namespace Sys2Proof.Machine

variable {s u : State}

theorem hbc_iff : s.hbc = true ↔ s.tbCount = s.halfBit - 1 := by
  rw [State.hbc, beq_iff_eq]

theorem tbCC_iff : s.tbCC = true ↔ s.tbCount = s.halfBit - 1 ∧ s.tbClk = false := by
  rw [State.tbCC, Bool.and_eq_true, hbc_iff, Bool.not_eq_true']

theorem hbc_congr (hclk : u.clkHz = s.clkHz) (hcount : u.tbCount = s.tbCount) : u.hbc = s.hbc := by
  rw [State.hbc, State.hbc, State.halfBit, State.halfBit, hclk, hcount]

/-- TB.HALF and TB.CYCLE wrap the counter and flip the clock bit (40_timebase.md R73, R74). -/
theorem succ_timebase_of_wrap (h : s.tbCount = s.halfBit - 1) : s.succ.tbCount = 0 ∧ s.succ.tbClk = !s.tbClk := by
  simp [State.succ, hbc_iff.mpr h]

/-- TB.COUNT advances the counter and holds the clock bit (40_timebase.md R72). -/
theorem succ_timebase_of_count (h : s.tbCount ≠ s.halfBit - 1) :
    s.succ.tbCount = s.tbCount + 1 ∧ s.succ.tbClk = s.tbClk := by
  have hcounts : s.hbc = false := Bool.eq_false_iff.mpr (mt hbc_iff.mp h)
  simp [State.succ, hcounts]

/-- `clkHz`, `tbCount` and `tbClk` are all that the Timebase reads (40_timebase.md R79). -/
theorem succ_timebase_congr (hclk : u.clkHz = s.clkHz) (hcount : u.tbCount = s.tbCount) (hbit : u.tbClk = s.tbClk) :
    u.succ.tbCount = s.succ.tbCount ∧ u.succ.tbClk = s.succ.tbClk := by
  simp only [State.succ, hbc_congr hclk hcount, hcount, hbit, and_self]

theorem decode_tb_key (s : State) : decode .tb (s.key .tb) =
    .ok (if s.hbc then (if s.tbClk then .tbHalf else .tbCycle) else .tbCount) :=
  decode_tb s.hbc s.tbClk

theorem selects_tbHalf_iff : decode .tb (s.key .tb) = .ok .tbHalf ↔ s.tbCount = s.halfBit - 1 ∧ s.tbClk = true := by
  rw [decode_tb_key, ← hbc_iff]
  cases s.hbc <;> cases s.tbClk <;> simp

/-- TB.CYCLE runs exactly on the cycle boundaries (40_timebase.md R74). -/
theorem selects_tbCycle_iff : decode .tb (s.key .tb) = .ok .tbCycle ↔ s.tbCC = true := by
  rw [decode_tb_key, State.tbCC]
  cases s.hbc <;> cases s.tbClk <;> simp

/-- Settles O28: the two cases of the closed step are the wrap and the count, and neither reads another register. -/
theorem timebaseNeverGated : Obligations.TimebaseNeverGated := by
  intro s hs
  refine ⟨s.succ, step_of_legal hs, succ_timebase_of_wrap, succ_timebase_of_count, ?_⟩
  intro u v _ hclk hcount hbit hstep
  obtain ⟨-, rfl⟩ := step_eq_next hstep
  exact succ_timebase_congr hclk hcount hbit

end Sys2Proof.Machine
end

section
/-! PROOFS. Legal runs (60_exceptions.md R160): a legal state steps to a legal state, and what every legal step keeps holds at
the end of every run. -/

namespace Sys2Proof.Machine

variable {s t : State}

@[simp] theorem succ_clkHz (s : State) : s.succ.clkHz = s.clkHz := rfl
@[simp] theorem succ_halfBit (s : State) : s.succ.halfBit = s.halfBit := rfl
@[simp] theorem succ_tick (s : State) : s.succ.tick = s.tick + 1 := rfl
@[simp] theorem succ_dbCount (s : State) : s.succ.dbCount = s.dbCount + 1 := rfl

/-- TB.COUNT runs below `N - 1` only, so the counter stays in its range (40_timebase.md R72). -/
theorem succ_tbCount_lt (hrange : s.tbCount < s.halfBit) : s.succ.tbCount < s.halfBit := by
  by_cases hwrap : s.tbCount = s.halfBit - 1
  · obtain ⟨hcount, -⟩ := succ_timebase_of_wrap hwrap
    omega
  · obtain ⟨hcount, -⟩ := succ_timebase_of_count hwrap
    omega

/-- The counter is cleared at 16 before it could pass it (44_controller.md R133). -/
theorem nextBitCounter_le (hbits : s.bitCounter.toNat ≤ 16) : s.nextBitCounter.toNat ≤ 16 := by
  cases hctl : s.ctlState with
  | idle | stop => simpa only [State.nextBitCounter, hctl] using hbits
  | start => simp [State.nextBitCounter, hctl]
  | transmit =>
    by_cases hpulse : s.encCC = true
    · by_cases hlast : s.bitCounter = Config.bitCountMax
      · simp [State.nextBitCounter, hctl, hpulse, hlast]
      · have hcounts : s.nextBitCounter = s.bitCounter + 1 := by simp [State.nextBitCounter, hctl, hpulse, hlast]
        rw [hcounts]
        simp only [Config.bitCountMax] at hlast
        bv_omega
    · simpa [State.nextBitCounter, hctl, hpulse] using hbits

theorem succ_legal (h : s.Legal) : s.succ.Legal := by
  obtain ⟨hclk, hrange, hbits, hcounts⟩ := h
  exact ⟨hclk, succ_tbCount_lt hrange, nextBitCounter_le hbits, nextSchedule_counts hcounts⟩

/-- The induction over runs, said once: from a legal state every run answers, and what each legal step keeps still holds. -/
theorem exists_runTicks_of_invariant {P : State → Prop} (hstep : ∀ u : State, u.Legal → P u → P u.succ)
    (hlegal : s.Legal) (hP : P s) (k : Nat) : ∃ t, runTicks k s = .next t ∧ t.Legal ∧ P t := by
  induction k generalizing s with
  | zero => exact ⟨s, runTicks_zero s, hlegal, hP⟩
  | succ k ih =>
    rw [runTicks_succ_of_legal hlegal]
    exact ih (succ_legal hlegal) (hstep s hlegal hP)

/-- No step writes the configuration (00_scope.md R6), and each adds one to the tick number. -/
theorem runTicks_clkHz_tick {k : Nat} (hrun : runTicks k s = .next t) : t.clkHz = s.clkHz ∧ t.tick = s.tick + k := by
  induction k generalizing s with
  | zero => cases hrun; exact ⟨rfl, rfl⟩
  | succ k ih =>
    obtain ⟨u, hu, hrest⟩ := andThen_eq_next (o := step s) hrun
    obtain ⟨-, rfl⟩ := step_eq_next hu
    obtain ⟨hclk, htick⟩ := ih hrest
    exact ⟨hclk, by rw [htick, succ_tick]; omega⟩

theorem resetAt_loadSchedule_legal {c : Nat} (hN : Config.Legal c) {l : List InputRun} (hl : ∀ r ∈ l, 1 ≤ r.count) :
    ((State.resetAt c).loadSchedule l).Legal :=
  ⟨hN, Nat.lt_of_lt_of_le Nat.zero_lt_two hN, Nat.zero_le 16, hl⟩

end Sys2Proof.Machine
end

section
/-! PROOFS. The Timebase from reset (40_timebase.md R77): its registers are the digits of the tick number in the bit period, and
every entry of the rule's table is read off them. -/

namespace Sys2Proof.Machine

variable {s : State}

/-! ## The phase is kept -/

/-- Off a wrap the quotient by the period holds and the remainder advances. -/
theorem div_mod_succ_of_count {m n : Nat} (h : m % n + 1 < n) : (m + 1) / n = m / n ∧ (m + 1) % n = m % n + 1 := by
  have hm : m % n + n * (m / n) = m := Nat.mod_add_div m n
  exact (Nat.div_mod_unique (by omega)).mpr ⟨by omega, h⟩

/-- On a wrap the quotient by the period advances and the remainder clears. -/
theorem div_mod_succ_of_wrap {m n : Nat} (h : m % n + 1 = n) : (m + 1) / n = m / n + 1 ∧ (m + 1) % n = 0 := by
  have hm : m % n + n * (m / n) = m := Nat.mod_add_div m n
  exact (Nat.div_mod_unique (by omega)).mpr ⟨by rw [Nat.mul_succ]; omega, by omega⟩

theorem succ_dbCount_toNat (hdb : s.dbCount.toNat = s.tick % 256) : s.succ.dbCount.toNat = s.succ.tick % 256 := by
  rw [succ_dbCount, succ_tick, BitVec.toNat_add, hdb]
  exact Nat.mod_add_mod s.tick 256 1

/-- The two free-running references keep their closed forms (40_timebase.md R77, 42_button_debouncer.md R100): a counting tick
leaves the quotient of the tick number by `N`, a wrapping tick adds one to it and so flips its parity. -/
theorem succ_inPhase (hlegal : s.Legal) (hphase : s.InPhase) : s.succ.InPhase := by
  obtain ⟨-, hrange, -, -⟩ := hlegal
  obtain ⟨hcount, hclk, hdb⟩ := hphase
  by_cases hwrap : s.tbCount = s.halfBit - 1
  · obtain ⟨hcount', hclk'⟩ := succ_timebase_of_wrap hwrap
    obtain ⟨hdiv, hmod⟩ := div_mod_succ_of_wrap (m := s.tick) (n := s.halfBit) (by omega)
    refine ⟨by rw [hcount', succ_halfBit, succ_tick, hmod], ?_, succ_dbCount_toNat hdb⟩
    rw [hclk', succ_halfBit, succ_tick, hdiv, hclk, Bool.eq_iff_iff]
    simp only [Bool.not_eq_true', beq_eq_false_iff_ne, beq_iff_eq]
    omega
  · obtain ⟨hcount', hclk'⟩ := succ_timebase_of_count hwrap
    obtain ⟨hdiv, hmod⟩ := div_mod_succ_of_count (m := s.tick) (n := s.halfBit) (by omega)
    exact ⟨by rw [hcount', succ_halfBit, succ_tick, hmod, hcount],
      by rw [hclk', succ_halfBit, succ_tick, hdiv, hclk], succ_dbCount_toNat hdb⟩

theorem resetAt_loadSchedule_inPhase (c : Nat) (l : List InputRun) : ((State.resetAt c).loadSchedule l).InPhase := by
  simp [State.InPhase, State.resetAt]

/-- From reset, under any program, the run of `m` ticks ends in a legal state of tick `m`, at its phase. -/
theorem exists_runTicks_reset {c : Nat} (hN : Config.Legal c) {l : List InputRun} (hl : ∀ r ∈ l, 1 ≤ r.count) (m : Nat) :
    ∃ s, runTicks m ((State.resetAt c).loadSchedule l) = .next s ∧ s.Legal ∧ s.InPhase ∧
      s.halfBit = Config.halfBit c ∧ s.tick = m := by
  obtain ⟨s, hrun, hlegal, hphase⟩ := exists_runTicks_of_invariant (fun _ => succ_inPhase)
    (resetAt_loadSchedule_legal hN hl) (resetAt_loadSchedule_inPhase c l) m
  obtain ⟨hclk, htick⟩ := runTicks_clkHz_tick hrun
  exact ⟨s, hrun, hlegal, hphase, congrArg Config.halfBit hclk, htick.trans (Nat.zero_add m)⟩

/-! ## The position in the bit period -/

/-- The two registers are the digits of the tick number modulo `2N`: `tbClk` the half, `tbCount` the tick in it. -/
theorem tick_mod_symbol (hphase : s.InPhase) :
    s.tick % (2 * s.halfBit) = if s.tbClk then s.halfBit + s.tbCount else s.tbCount := by
  obtain ⟨hcount, hclk, -⟩ := hphase
  have hdigits : s.tick % (2 * s.halfBit) = s.tbCount + s.halfBit * (s.tick / s.halfBit % 2) := by
    rw [Nat.mul_comm, Nat.mod_mul, hcount]
  rw [hdigits, hclk]
  rcases Nat.mod_two_eq_zero_or_one (s.tick / s.halfBit) with hhalf | hhalf
  · simp [hhalf]
  · simp [hhalf, Nat.add_comm]

theorem tbCC_iff_tick_mod (hlegal : s.Legal) (hphase : s.InPhase) :
    s.tbCC = true ↔ s.tick % (2 * s.halfBit) = s.halfBit - 1 := by
  obtain ⟨-, hrange, -, -⟩ := hlegal
  rw [tbCC_iff, tick_mod_symbol hphase]
  cases s.tbClk with
  | false => simp
  | true =>
    simp only [Bool.true_eq_false, and_false, if_true, false_iff]
    omega

theorem selects_tbHalf_iff_tick_mod (hlegal : s.Legal) (hphase : s.InPhase) :
    decode .tb (s.key .tb) = .ok .tbHalf ↔ s.tick % (2 * s.halfBit) = 2 * s.halfBit - 1 := by
  obtain ⟨-, hrange, -, -⟩ := hlegal
  rw [selects_tbHalf_iff, tick_mod_symbol hphase]
  cases s.tbClk with
  | false =>
    simp only [Bool.false_eq_true, and_false, if_false, false_iff]
    omega
  | true =>
    simp only [and_true, if_true]
    omega

theorem tbClk_eq_decide_tick_mod (hlegal : s.Legal) (hphase : s.InPhase) :
    s.tbClk = decide (s.halfBit ≤ s.tick % (2 * s.halfBit)) := by
  obtain ⟨-, hrange, -, -⟩ := hlegal
  rw [tick_mod_symbol hphase]
  cases s.tbClk with
  | false => simpa using hrange
  | true => simp

/-- The ticks of one residue are that residue and then one period apart. -/
theorem mod_eq_iff_exists_add_mul {m p r : Nat} (hr : r < p) : m % p = r ↔ ∃ k, m = r + p * k := by
  rw [Nat.mod_eq_iff, or_iff_right (by omega), and_iff_right hr]
  simp only [Nat.add_comm]

/-- The bit period after a boundary takes the upper half of the residues first, then the lower half. -/
theorem half_le_mod_iff {n k j : Nat} (hj : 1 ≤ j) (hj' : j ≤ 2 * n) :
    n ≤ (n - 1 + 2 * n * k + j) % (2 * n) ↔ j ≤ n := by
  by_cases hfirst : j ≤ n
  · have hres : (n - 1 + 2 * n * k + j) % (2 * n) = n - 1 + j :=
      (mod_eq_iff_exists_add_mul (by omega)).mpr ⟨k, by omega⟩
    omega
  · have hres : (n - 1 + 2 * n * k + j) % (2 * n) = j - n - 1 :=
      (mod_eq_iff_exists_add_mul (by omega)).mpr ⟨k + 1, by rw [Nat.mul_succ]; omega⟩
    omega

/-- Settles O29: the state of tick `t` is in phase, and each entry of R77's table is read off the phase. -/
theorem timebaseClosedForm : Obligations.TimebaseClosedForm := by
  intro c hN l hl n hn t
  obtain ⟨s, hrun, hlegal, hphase, hhalf, htick⟩ := exists_runTicks_reset hN hl t
  obtain rfl : s.halfBit = n := hhalf.trans hn.symm
  subst htick
  have ⟨_, hrange, _, _⟩ := hlegal
  have ⟨hcount, hclk, _⟩ := hphase
  have hcc := tbCC_iff_tick_mod hlegal hphase
  refine ⟨s, hrun, hcount, hclk, hcount ▸ hbc_iff, hcc, selects_tbHalf_iff_tick_mod hlegal hphase,
    selects_tbCycle_iff.trans hcc, hcc.trans (mod_eq_iff_exists_add_mul (by omega)), fun k j ht hj hj' => ?_⟩
  rw [tbClk_eq_decide_tick_mod hlegal hphase, decide_eq_decide, ht]
  exact half_le_mod_iff hj hj'

end Sys2Proof.Machine
end

section
/-! PROOFS. When each signal of the encoder, each pulse between it and the controller, and each output is 1
(41_manchester_encoder.md R81, R82; 44_controller.md R130, R146). -/

namespace Sys2Proof.Machine

variable {s : State}

theorem encOut_iff : s.encOut = true ↔
    (s.encState = .startBit ∧ s.encClkDly = true) ∨ (s.encState = .bitEncode ∧ s.encBit = s.encClkDly) := by
  rw [State.encOut]
  cases s.encState <;> simp

theorem running_iff : s.running = true ↔ s.ctlState = .transmit ∨ s.ctlState = .stop := by
  rw [State.running]
  cases s.ctlState <;> simp

theorem ledRun_iff : s.ledRun = true ↔ (s.ctlState = .transmit ∨ s.ctlState = .stop) ∧ s.encEn = true := by
  rw [State.ledRun, Bool.and_eq_true, running_iff]

theorem ledMode_iff : s.ledMode = true ↔ s.mode = .continuous := by
  rw [State.ledMode, beq_iff_eq]

/-- Settles O18: the three ports are the line, the run lamp and the mode lamp. -/
theorem outputLevels : Obligations.OutputLevels :=
  fun _ => ⟨encOut_iff, ledRun_iff, ledMode_iff⟩

theorem encSending_iff : s.encSending = true ↔ s.encState ≠ .idle ∧ s.encState ≠ .waitStart := by
  rw [State.encSending]
  cases s.encState <;> simp

theorem encCC_iff : s.encCC = true ↔
    s.encEn = true ∧ s.tbCC = true ∧ s.encState ≠ .idle ∧ s.encState ≠ .waitStart := by
  rw [State.encCC, Bool.and_eq_true, Bool.and_eq_true, encSending_iff, and_assoc]

theorem encHBC_iff : s.encHBC = true ↔ s.encEn = true ∧ s.tbCount = s.halfBit - 1 := by
  rw [State.encHBC, Bool.and_eq_true, hbc_iff]

theorem encStart_iff : s.encStart = true ↔ s.ctlState = .start := by
  rw [State.encStart, beq_iff_eq]

theorem encStop_iff : s.encStop = true ↔ s.ctlState = .transmit ∧ s.encCC = true ∧ s.bitCounter = 16 := by
  rw [State.encStop, Bool.and_eq_true, Bool.and_eq_true, beq_iff_eq, beq_iff_eq, and_assoc, Config.bitCountMax]

theorem encCC_of_encStop (h : s.encStop = true) : s.encCC = true := by
  obtain ⟨-, hpulse, -⟩ := encStop_iff.mp h
  exact hpulse

theorem tbCC_of_encCC (h : s.encCC = true) : s.tbCC = true := by
  obtain ⟨-, hboundary, -⟩ := encCC_iff.mp h
  exact hboundary

/-- Settles O20: each pulse has its defining equivalence, and a stop is a cycle pulse, which is a boundary. -/
theorem encoderControllerPulses : Obligations.EncoderControllerPulses :=
  fun _ => ⟨tbCC_iff, encCC_iff, encHBC_iff, encStart_iff, encStop_iff, encCC_of_encStop, tbCC_of_encCC⟩

end Sys2Proof.Machine
end

section
/-! PROOFS. The symbol waveform (41_manchester_encoder.md R91): the Timebase's registers count the ticks since the last boundary, an
enabled encoder keeps its symbol and its data bit until the next one, and the delayed clock is the symbol's first half. -/

namespace Sys2Proof.Machine

variable {s t u : State} {d : Nat}

/-! ## Ticks since the boundary -/

/-- The number of ticks since the last boundary, 1 to `2N`: TB.CYCLE starts the upper half of `tbClk`, TB.HALF the lower half. -/
def State.sinceBoundary (s : State) : Nat := if s.tbClk then s.tbCount + 1 else s.halfBit + (s.tbCount + 1)

theorem tbCC_iff_sinceBoundary (hlegal : s.Legal) : s.tbCC = true ↔ s.sinceBoundary = 2 * s.halfBit := by
  obtain ⟨-, hrange, -, -⟩ := hlegal
  rw [tbCC_iff, State.sinceBoundary]
  cases s.tbClk with
  | false =>
    simp only [and_true, Bool.false_eq_true, if_false]
    omega
  | true =>
    simp only [Bool.true_eq_false, and_false, if_true, false_iff]
    omega

theorem tbClk_eq_decide_sinceBoundary (hlegal : s.Legal) :
    s.tbClk = decide (1 ≤ s.sinceBoundary ∧ s.sinceBoundary ≤ s.halfBit) := by
  obtain ⟨-, hrange, -, -⟩ := hlegal
  rw [State.sinceBoundary]
  cases s.tbClk with
  | false => simp
  | true => simpa using hrange

theorem succ_sinceBoundary_of_boundary (hboundary : s.tbCC = true) : s.succ.sinceBoundary = 1 := by
  obtain ⟨hwrap, hlow⟩ := tbCC_iff.mp hboundary
  obtain ⟨hcount, hclk⟩ := succ_timebase_of_wrap hwrap
  simp [State.sinceBoundary, hcount, hclk, hlow]

/-- Off a boundary the Timebase counts, or wraps at the mid-point of the period, where the upper half has had its `N` ticks. -/
theorem succ_sinceBoundary_of_inside (hlegal : s.Legal) (hinside : s.tbCC = false) :
    s.succ.sinceBoundary = s.sinceBoundary + 1 := by
  by_cases hwrap : s.tbCount = s.halfBit - 1
  · have hhigh : s.tbClk = true := by simpa [State.tbCC, hbc_iff.mpr hwrap] using hinside
    obtain ⟨-, hrange, -, -⟩ := hlegal
    obtain ⟨hcount, hclk⟩ := succ_timebase_of_wrap hwrap
    simp only [State.sinceBoundary, hcount, hclk, hhigh, Bool.not_true, Bool.false_eq_true, if_false, if_true,
      succ_halfBit]
    omega
  · obtain ⟨hcount, hclk⟩ := succ_timebase_of_count hwrap
    simp only [State.sinceBoundary, hcount, hclk, succ_halfBit]
    split <;> omega

/-! ## The encoder between boundaries -/

/-- Every enabled operation writes the clock into its delayed copy (41_manchester_encoder.md R84). -/
theorem succ_encClkDly (hen : s.encEn = true) : s.succ.encClkDly = s.tbClk := by
  simp [State.succ, hen]

/-- Data bits are latched on boundaries only (41_manchester_encoder.md R87, R88). -/
theorem succ_encBit_of_inside (hinside : s.tbCC = false) : s.succ.encBit = s.encBit := by
  have hhold : s.nextEncBit = s.encBit := by
    cases hstate : s.encState <;> simp [State.nextEncBit, hstate, hinside]
  simp [State.succ, hhold]

/-- Off a boundary the one change of the encoder's state is the start in IDLE (41_manchester_encoder.md R85 to R89). -/
theorem succ_encState_of_inside (hinside : s.tbCC = false) :
    s.succ.encState = s.encState ∨ (s.encState = .idle ∧ s.succ.encState = .waitStart) := by
  have hnext : s.nextEncState = s.encState ∨ (s.encState = .idle ∧ s.nextEncState = .waitStart) := by
    cases hstate : s.encState with
    | idle => cases hstart : s.encStart <;> simp [State.nextEncState, hstate, hstart]
    | waitStart | startBit | bitEncode | stopBit => simp [State.nextEncState, hstate, hinside]
  cases hen : s.encEn with
  | false => simp [State.succ, hen]
  | true => simpa [State.succ, hen] using hnext

/-! ## The ticks of one symbol -/

/-- The delayed clock is the line's level through START_BIT, and a data bit's level is its agreement with it (R81, R91). -/
theorem symbolLevel_eq_agree (n d : Nat) (b : Bool) : symbolLevel n d b = !(b ^^ symbolLevel n d true) := by
  unfold symbolLevel
  split <;> cases b <;> rfl

/-- `t` is the `d`-th tick of the symbol whose first tick is `u`, with the encoder enabled so far. -/
structure State.SymbolTick (u : State) (d : Nat) (t : State) : Prop where
  legal : t.Legal
  halfBit : t.halfBit = u.halfBit
  position : t.sinceBoundary = d
  clkDly : t.encClkDly = symbolLevel u.halfBit (d - 1) true
  dataBit : t.encBit = u.encBit
  encState : t.encState = u.encState ∨ (u.encState = .idle ∧ t.encState = .waitStart)

/-- The tick after a boundary is the first of a symbol; it still shows the clock of the boundary, which is 0. -/
theorem succ_symbolTick_one (hlegal : s.Legal) (hboundary : s.tbCC = true) (hen : s.encEn = true) :
    s.succ.SymbolTick 1 s.succ where
  legal := succ_legal hlegal
  halfBit := rfl
  position := succ_sinceBoundary_of_boundary hboundary
  clkDly := by
    obtain ⟨-, hlow⟩ := tbCC_iff.mp hboundary
    rw [succ_encClkDly hen, hlow]
    rfl
  dataBit := rfl
  encState := .inl rfl

namespace State.SymbolTick

theorem tbCC_eq_false (h : u.SymbolTick d t) (hd : d < 2 * u.halfBit) : t.tbCC = false := by
  rw [Bool.eq_false_iff, ne_eq, tbCC_iff_sinceBoundary h.legal, h.position, h.halfBit]
  omega

theorem next_encState (h : u.SymbolTick d t) (hinside : t.tbCC = false) :
    t.succ.encState = u.encState ∨ (u.encState = .idle ∧ t.succ.encState = .waitStart) := by
  rcases succ_encState_of_inside hinside with hhold | ⟨hidle, hstart⟩
  · rw [hhold]
    exact h.encState
  · rcases h.encState with hsame | ⟨-, hwait⟩
    · exact .inr ⟨hsame ▸ hidle, hstart⟩
    · simp [hidle] at hwait

/-- An enabled tick before the last of the symbol is followed by the next tick of the same symbol. -/
theorem next (h : u.SymbolTick d t) (hd : d < 2 * u.halfBit) (hen : t.encEn = true) : u.SymbolTick (d + 1) t.succ where
  legal := succ_legal h.legal
  halfBit := h.halfBit
  position := by rw [succ_sinceBoundary_of_inside h.legal (h.tbCC_eq_false hd), h.position]
  clkDly := by
    rw [succ_encClkDly hen, tbClk_eq_decide_sinceBoundary h.legal, h.position, h.halfBit, Nat.add_sub_cancel, symbolLevel]
    simp
  dataBit := (succ_encBit_of_inside (h.tbCC_eq_false hd)).trans h.dataBit
  encState := h.next_encState (h.tbCC_eq_false hd)

/-! ## The rows of R91's table -/

theorem startBit (h : u.SymbolTick d t) (hu : u.encState = .startBit) :
    t.encState = .startBit ∧ t.swoOut = symbolLevel u.halfBit (d - 1) true := by
  have hstate : t.encState = .startBit := by simpa [hu] using h.encState
  exact ⟨hstate, by rw [State.swoOut, State.encOut, hstate]; exact h.clkDly⟩

theorem bitEncode (h : u.SymbolTick d t) (hu : u.encState = .bitEncode) :
    t.encState = .bitEncode ∧ t.encBit = u.encBit ∧ t.swoOut = symbolLevel u.halfBit (d - 1) u.encBit := by
  have hstate : t.encState = .bitEncode := by simpa [hu] using h.encState
  refine ⟨hstate, h.dataBit, ?_⟩
  rw [symbolLevel_eq_agree, ← h.clkDly, ← h.dataBit, State.swoOut, State.encOut, hstate]

theorem stopBit (h : u.SymbolTick d t) (hu : u.encState = .stopBit) : t.encState = .stopBit ∧ t.swoOut = false := by
  have hstate : t.encState = .stopBit := by simpa [hu] using h.encState
  exact ⟨hstate, by rw [State.swoOut, State.encOut, hstate]⟩

theorem waiting (h : u.SymbolTick d t) (hu : u.encState = .idle ∨ u.encState = .waitStart) :
    (t.encState = .idle ∨ t.encState = .waitStart) ∧ t.swoOut = false := by
  have hstate : t.encState = .idle ∨ t.encState = .waitStart := by
    rcases h.encState with hsame | ⟨-, hwait⟩
    · rwa [hsame]
    · exact .inr hwait
  refine ⟨hstate, ?_⟩
  rcases hstate with hidle | hwait
  · rw [State.swoOut, State.encOut, hidle]
  · rw [State.swoOut, State.encOut, hwait]

end State.SymbolTick

/-! ## The run over one symbol -/

theorem enabledAfter_of_runTicks {k : Nat} (hrun : runTicks k s = .next t) : s.enabledAfter k = t.encEn := by
  simp only [State.enabledAfter, hrun]

/-- From an enabled boundary, an encoder that stays enabled runs through the `2N` ticks of one symbol. -/
theorem exists_runTicks_symbolTick (hlegal : s.Legal) (hboundary : s.tbCC = true)
    (hen : ∀ j, j ≤ 2 * s.halfBit → s.enabledAfter j = true) (hd : 1 ≤ d) (hd' : d ≤ 2 * s.halfBit) :
    ∃ t, runTicks d s = .next t ∧ s.succ.SymbolTick d t := by
  induction d, hd using Nat.le_induction with
  | base =>
    have hen0 : s.encEn = true := (enabledAfter_of_runTicks (runTicks_zero s)).symm.trans (hen 0 (Nat.zero_le _))
    exact ⟨s.succ, runTicks_succ_of_legal hlegal 0, succ_symbolTick_one hlegal hboundary hen0⟩
  | succ d _ ih =>
    obtain ⟨t, hrun, ht⟩ := ih (by omega)
    have hent : t.encEn = true := (enabledAfter_of_runTicks hrun).symm.trans (hen d (by omega))
    exact ⟨t.succ, (runTicks_succ_last hrun).trans (step_of_legal ht.legal), ht.next hd' hent⟩

/-- Settles O33: every tick after the boundary is a tick of the symbol entered there, whose table row it shows. -/
theorem symbolWaveform : Obligations.SymbolWaveform := by
  intro s hlegal hboundary hen
  refine ⟨s.succ, step_of_legal hlegal, fun d hd hd' => ?_⟩
  obtain ⟨t, hrun, ht⟩ := exists_runTicks_symbolTick hlegal hboundary hen hd hd'
  exact ⟨t, hrun, ht.startBit, ht.bitEncode, ht.stopBit, ht.waiting⟩

end Sys2Proof.Machine
end

section
/-! PROOFS. The decoder, row by row (30_encoding.md R66): a legal key names the one operation of its format whose row it matches;
and the debounce table read that way (42_button_debouncer.md R113). -/

namespace Sys2Proof

variable {f : Format} {k : Key} {i : Instr}

/-! ## Legal keys and the rows they match -/

theorem exists_decode_of_wf (hk : k.wf f = true) : ∃ i, decode f k = .ok i := by
  obtain ⟨i, hrow⟩ := List.length_eq_one_iff.mp (rows_partition f k hk)
  have hfind : Instr.table.find? (fun j => j.format == f && j.matchesKey k) = some i := by
    rw [← List.head?_filter, hrow, List.head?_singleton]
  obtain ⟨hfits, hreserved⟩ : k.fits f = true ∧ k.reserved f = false := by simpa [Key.wf] using hk
  exact ⟨i, by simp [decode, hfits, hreserved, hfind]⟩

/-- The rows of a format are disjoint, so a legal key that matches a row decodes to it. -/
theorem decode_eq_ok_iff : decode f k = .ok i ↔ i.format = f ∧ i.matchesKey k = true ∧ k.wf f = true := by
  refine ⟨decode_ok, fun ⟨hformat, hmatch, hwf⟩ => ?_⟩
  obtain ⟨j, hj⟩ := exists_decode_of_wf hwf
  obtain ⟨hformat', hmatch', -⟩ := decode_ok hj
  rw [hj, rows_disjoint hformat hformat' hwf hmatch hmatch']

theorem matchesKey_iff : i.matchesKey k = true ↔ k &&& i.pattern.mask = i.pattern.pat := by
  rw [Instr.matchesKey, beq_iff_eq]

/-! ## The debounce table -/

/-- Every five-bit key is a legal F_DB key (30_encoding.md R59): the format has the width of a key and reserves none. -/
theorem wf_db (k : Key) : k.wf .db = true := by
  have hfits : k.fits .db = true := decide_eq_true k.isLt
  rw [Key.wf, hfits]
  rfl

theorem decode_db_eq_ok_iff (hformat : i.format = .db) : decode .db k = .ok i ↔ k &&& i.pattern.mask = i.pattern.pat := by
  rw [decode_eq_ok_iff, matchesKey_iff, and_iff_right hformat, and_iff_left (wf_db k)]

/-- A row whose mask leaves no bit open is selected by its match alone. -/
theorem decode_db_eq_ok_iff_of_mask (hformat : i.format = .db) (hmask : i.pattern.mask = BitVec.allOnes 5) :
    decode .db k = .ok i ↔ k = i.pattern.pat := by
  rw [decode_db_eq_ok_iff hformat, hmask, BitVec.and_allOnes]

/-- The row `0--0` leaves two bits open, so four keys select it (42_button_debouncer.md R103). -/
theorem decode_db_r0xx0_iff : decode .db k = .ok .dbR0xx0 ↔ k ∈ ([0b10000, 0b10010, 0b10100, 0b10110] : List Key) := by
  have hkeys : ∀ k : Key, k &&& 0b11001 = 0b10000 ↔ k ∈ ([0b10000, 0b10010, 0b10100, 0b10110] : List Key) := by decide
  exact (decode_db_eq_ok_iff rfl).trans (hkeys k)

/-- The row `1--1` leaves two bits open, so four keys select it (42_button_debouncer.md R108). -/
theorem decode_db_r1xx1_iff : decode .db k = .ok .dbR1xx1 ↔ k ∈ ([0b11001, 0b11011, 0b11101, 0b11111] : List Key) := by
  have hkeys : ∀ k : Key, k &&& 0b11001 = 0b11001 ↔ k ∈ ([0b11001, 0b11011, 0b11101, 0b11111] : List Key) := by decide
  exact (decode_db_eq_ok_iff rfl).trans (hkeys k)

/-- Settles O8: two rows leave bits open, eight have the full mask, and every key is legal. -/
theorem debounceTableTotal : Obligations.DebounceTableTotal := by
  refine ⟨fun _ => decode_db_r0xx0_iff, fun _ => decode_db_r1xx1_iff, fun k => ⟨?_, ?_, ?_, ?_, ?_, ?_, ?_, ?_⟩,
    fun k => exists_decode_of_wf (wf_db k)⟩
  all_goals exact decode_db_eq_ok_iff_of_mask rfl rfl

end Sys2Proof
end

section
/-! PROOFS. The debounced value (42_button_debouncer.md R114): the register's bit 2 after a step, and the two rows that change it. -/

namespace Sys2Proof.Machine

variable {s : State}

@[simp] theorem succ_dbReg (s : State) : s.succ.dbReg = if s.dbSample then dbNext s.dbReg s.buttonIn else s.dbReg := rfl

theorem decode_db_key (s : State) : decode .db (s.key .db) = .ok (dbInstr s.dbSample s.dbReg s.buttonIn) :=
  decode_db s.dbSample s.dbReg s.buttonIn

/-- Bit 2 splits the register's values into the low side 0 to 3 and the high side 4 to 7 (42_button_debouncer.md R115). -/
theorem getLsbD_two_eq_decide (r : BitVec 3) : r.getLsbD 2 = decide (4 ≤ r.toNat) :=
  (BitVec.msb_eq_getLsbD_last r).symm.trans (BitVec.msb_eq_decide r)

/-- A 1 sample puts the register on the high side from 3 on: already there, or by the fourth sample. -/
theorem getLsbD_two_dbNext_true (r : BitVec 3) : (dbNext r true).getLsbD 2 = decide (3 ≤ r.toNat) := by
  by_cases hhigh : 3 ≤ r.toNat
  · simp [dbNext, hhigh]
  · have hcounts : (dbNext r true).toNat = r.toNat + 1 := by
      simp only [dbNext, hhigh, if_true, if_false]
      bv_omega
    rw [getLsbD_two_eq_decide, hcounts, decide_eq_decide]
    omega

/-- A 0 sample puts the register on the low side up to 4: already there, or by the fourth sample. -/
theorem getLsbD_two_dbNext_false (r : BitVec 3) : (dbNext r false).getLsbD 2 = decide (5 ≤ r.toNat) := by
  by_cases hlow : r.toNat ≤ 4
  · simp [dbNext, hlow, Nat.lt_add_one_of_le hlow]
  · have hcounts : (dbNext r false).toNat = r.toNat - 1 := by
      simp only [dbNext, hlow, Bool.false_eq_true, if_false]
      bv_omega
    rw [getLsbD_two_eq_decide, hcounts, decide_eq_decide]
    omega

/-- A sample of `b` changes bit 2 only to `b`, from the one register value that waits for the fourth sample. -/
theorem dbNext_changes_bit_two {r : BitVec 3} {b : Bool} (h : (dbNext r b).getLsbD 2 ≠ r.getLsbD 2) :
    (dbNext r b).getLsbD 2 = b ∧ r = (if b then 3 else 4) := by
  cases b with
  | true =>
    rw [getLsbD_two_dbNext_true, getLsbD_two_eq_decide, ne_eq, decide_eq_decide] at h
    have hr : r = 3 := by bv_omega
    subst hr
    exact ⟨rfl, rfl⟩
  | false =>
    rw [getLsbD_two_dbNext_false, getLsbD_two_eq_decide, ne_eq, decide_eq_decide] at h
    have hr : r = 4 := by bv_omega
    subst hr
    exact ⟨rfl, rfl⟩

/-- Off a sample tick DB.WAIT holds the register (42_button_debouncer.md R101). -/
theorem dbSample_of_dbOut_changes (h : s.succ.dbOut ≠ s.dbOut) : s.dbSample = true := by
  by_contra hwait
  exact h (by simp [State.dbOut, hwait])

/-- Settles O35: a change needs a sample tick, and there the register and the sample name the row. -/
theorem debouncedValueChanges : Obligations.DebouncedValueChanges := by
  refine ⟨fun _ => rfl, fun s t hstep hchange => ?_⟩
  obtain ⟨-, rfl⟩ := step_eq_next hstep
  have hsample : s.dbSample = true := dbSample_of_dbOut_changes hchange
  refine ⟨hsample, ?_⟩
  simp only [State.dbOut, succ_dbReg, hsample, if_true] at hchange
  obtain ⟨hout, hreg⟩ := dbNext_changes_bit_two hchange
  have hsucc : s.succ.dbOut = s.buttonIn := by simpa [State.dbOut, hsample] using hout
  rw [hsucc, decode_db_key, hsample, hreg]
  cases s.buttonIn with
  | true => exact .inl ⟨rfl, rfl⟩
  | false => exact .inr ⟨rfl, rfl⟩

end Sys2Proof.Machine
end

section
/-! PROOFS. The trigger's acceptance window (43_trigger_detector.md R120 to R123): when the trigger is 1, the counter after each
tick of a pulse, and the pulse widths that trigger. -/

namespace Sys2Proof.Machine

variable {s t : State} {k w : Nat}

/-! ## The detector on one tick -/

theorem inTriggerWindow_iff (c : BitVec 4) : inTriggerWindow c = true ↔ 11 ≤ c.toNat ∧ c.toNat ≤ 13 := by
  rw [inTriggerWindow, Bool.and_eq_true, decide_eq_true_iff, decide_eq_true_iff]
  rfl

/-- A counter in the window is not 0, so the falling tick of the trigger needs no condition on it (R122). -/
theorem trigger_iff : s.trigger = true ↔ s.triggerIn = false ∧ 11 ≤ s.trgCount.toNat ∧ s.trgCount.toNat ≤ 13 := by
  rw [State.trigger, State.trgFall, Bool.and_eq_true, Bool.and_eq_true, inTriggerWindow_iff, Bool.not_eq_true',
    bne_iff_ne, and_assoc, and_congr_right_iff]
  refine fun _ => and_iff_right_of_imp fun ⟨hlow, _⟩ hzero => ?_
  simp [hzero] at hlow

theorem trigger_eq_false_of_high (h : s.triggerIn = true) : s.trigger = false := by
  simp [State.trigger, State.trgFall, h]

theorem saturatingSucc_toNat (c : BitVec 4) : (saturatingSucc c).toNat = min (c.toNat + 1) 15 := by
  by_cases hsat : c = Config.trgSat
  · subst hsat
    rfl
  · rw [saturatingSucc, if_neg hsat]
    simp only [Config.trgSat] at hsat
    bv_omega

/-- TRG.HIGH counts the tick (43_trigger_detector.md R120). -/
theorem succ_trgCount_toNat_of_high (h : s.triggerIn = true) : s.succ.trgCount.toNat = min (s.trgCount.toNat + 1) 15 := by
  simp [State.succ, h, saturatingSucc_toNat]

/-! ## The detector along a pulse -/

/-- A run of `k` ticks ends on the tick whose input was `k` ticks ahead. -/
theorem triggerIn_of_runTicks (hrun : runTicks k s = .next t) : t.triggerIn = s.triggerAfter k := by
  induction k generalizing s with
  | zero => cases hrun; exact triggerIn_eq_triggerAfter _
  | succ k ih =>
    obtain ⟨u, hu, hrest⟩ := andThen_eq_next (o := step s) hrun
    obtain ⟨-, rfl⟩ := step_eq_next hu
    rw [ih hrest, succ_triggerAfter]

/-- While the input stays high the counter counts the ticks up to its saturation. -/
theorem exists_runTicks_high (hlegal : s.Legal) (hhigh : ∀ k, k < w → s.triggerAfter k = true) :
    ∃ t, runTicks w s = .next t ∧ t.trgCount.toNat = min (s.trgCount.toNat + w) 15 := by
  induction w generalizing s with
  | zero => exact ⟨s, runTicks_zero s, by omega⟩
  | succ w ih =>
    have hnow : s.triggerIn = true := (triggerIn_eq_triggerAfter s).trans (hhigh 0 w.succ_pos)
    have hthen : ∀ k, k < w → s.succ.triggerAfter k = true := fun k hk =>
      (succ_triggerAfter s k).trans (hhigh (k + 1) (Nat.succ_lt_succ hk))
    obtain ⟨t, hrun, hcount⟩ := ih (succ_legal hlegal) hthen
    have hfirst := succ_trgCount_toNat_of_high hnow
    exact ⟨t, (runTicks_succ_of_legal hlegal w).trans hrun, by omega⟩

/-- Settles O39: the pulse leaves min(w, 15) in the counter for its falling tick, and no tick before it falls. -/
theorem triggerAcceptanceWindow : Obligations.TriggerAcceptanceWindow := by
  intro s w hlegal hzero hhigh hlow
  refine ⟨?_, fun k hk => ?_⟩
  · obtain ⟨t, hrun, hcounted⟩ := exists_runTicks_high hlegal hhigh
    have hcount : t.trgCount.toNat = min w 15 := by simpa [hzero] using hcounted
    have hfalls : t.triggerIn = false := (triggerIn_of_runTicks hrun).trans hlow
    refine ⟨t, hrun, hcount, ?_⟩
    rw [trigger_iff, hcount, and_iff_right hfalls]
    omega
  · obtain ⟨t, hrun, -⟩ := exists_runTicks_high hlegal fun j hj => hhigh j (hj.trans hk)
    have hstays : t.triggerIn = true := (triggerIn_of_runTicks hrun).trans (hhigh k hk)
    exact ⟨t, hrun, trigger_eq_false_of_high hstays⟩

end Sys2Proof.Machine
end

section
/-! PROOFS. The controller's registers after a step (44_controller.md R132, R136, R139, R143): the tick of START, the enable flag
under an enable condition, and a switch requested while TRIGGERED. -/

namespace Sys2Proof.Machine

variable {s : State}

/-! ## The tick of START -/

/-- CTL.START goes on at once and clears the counter (44_controller.md R132). -/
theorem succ_controller_of_start (hstart : s.ctlState = .start) : s.succ.ctlState = .transmit ∧ s.succ.bitCounter = 0 := by
  simp [State.succ, State.nextCtlState, State.nextBitCounter, hstart]

/-- An enabled idle encoder takes the start pulse (41_manchester_encoder.md R85). -/
theorem succ_encState_of_encStart (hen : s.encEn = true) (hidle : s.encState = .idle) (hpulse : s.encStart = true) :
    s.succ.encState = .waitStart := by
  simp [State.succ, State.nextEncState, hen, hidle, hpulse]

/-- ST.SET is tested before ST.CLEAR (44_controller.md R139). -/
theorem succ_starting_of_encStart (hpulse : s.encStart = true) : s.succ.starting = true := by
  simp [State.succ, hpulse]

theorem running_eq_false_of_start (hstart : s.ctlState = .start) : s.running = false := by
  simp [State.running, hstart]

/-- Settles O41: coherence gives what START finds, the enable flag, the idle encoder and the cleared counter; the start pulse
then moves the three units in one step. -/
theorem startBeginsTheFrame : Obligations.StartBeginsTheFrame := by
  intro s hcoherent hstart
  obtain ⟨hlegal, -, hstartEnabled, -, hcounterCleared, hencoderIdle, -, -, -, -⟩ := hcoherent
  have hpulse : s.encStart = true := encStart_iff.mpr hstart
  have hen : s.encEn = true := hstartEnabled hstart
  have hidle : s.encState = .idle := hencoderIdle (.inr hstart)
  have hcounter : s.bitCounter = 0 := hcounterCleared (by simp [hstart])
  obtain ⟨htransmit, hcounter'⟩ := succ_controller_of_start hstart
  exact ⟨hpulse, running_eq_false_of_start hstart, hen, hcounter, s.succ, step_of_legal hlegal, htransmit, hcounter',
    succ_encState_of_encStart hen hidle hpulse, succ_starting_of_encStart hpulse⟩

/-! ## A switch requested while TRIGGERED -/

/-- MODE.T2C runs in every controller state and leaves nothing pending (44_controller.md R143). -/
theorem succ_mode_of_request_triggered (hmode : s.mode = .triggered) (hrequest : s.switchReq = true) :
    s.succ.mode = .continuous ∧ s.succ.modePending = false := by
  have hnotContinuous : (Mode.triggered == Mode.continuous) = false := rfl
  simp [State.succ, State.nextMode, State.nextModePending, hrequest, hmode, hnotContinuous]

/-- CONTINUOUS mode alone is an enable condition (44_controller.md R136). -/
theorem enCond_of_continuous (hmode : s.mode = .continuous) : s.enCond = true := by
  simp [State.enCond, hmode]

/-- EN.SET is tested before EN.CLEAR (44_controller.md R136). -/
theorem succ_encEn_of_enCond (henable : s.enCond = true) : s.succ.encEn = true := by
  simp [State.succ, henable]

/-- Settles O47: the request sets the mode on the first tick, and the mode enables the encoder on the second. -/
theorem switchToContinuousAtOnce : Obligations.SwitchToContinuousAtOnce := by
  intro s hlegal hmode hrequest
  obtain ⟨hcontinuous, hclear⟩ := succ_mode_of_request_triggered hmode hrequest
  have henable : s.succ.enCond = true := enCond_of_continuous hcontinuous
  exact ⟨s.succ, step_of_legal hlegal, hcontinuous, hclear, ledMode_iff.mpr hcontinuous, henable, s.succ.succ,
    step_of_legal (succ_legal hlegal), succ_encEn_of_enCond henable⟩

end Sys2Proof.Machine
end

section
/-! PROOFS. ConfigError (60_exceptions.md R161, R162): a boot reads a clock as a positive integer or reports cause 2, a small
positive integer reports cause 1, and no run of a legal state raises either. -/

namespace Sys2Proof.Machine

variable {s : State}

/-! ## The two causes at boot -/

/-- Denominator 1 and a positive numerator are the model's reading of "a positive integer" (60_exceptions.md R162). -/
theorem exists_pos_natCast_iff (clk : Rat) : (∃ c : Nat, 0 < c ∧ clk = c) ↔ clk.den = 1 ∧ 0 < clk.num := by
  constructor
  · rintro ⟨c, hc, rfl⟩
    exact ⟨Rat.den_natCast c, by rw [Rat.num_natCast]; omega⟩
  · rintro ⟨hden, hnum⟩
    obtain ⟨c, hc⟩ := Int.eq_ofNat_of_zero_le hnum.le
    refine ⟨c, by omega, ?_⟩
    rw [← Rat.coe_int_num_of_den_eq_one hden, hc, Int.cast_natCast]

theorem boot_of_not_pos_natCast {clk : Rat} (h : ¬ ∃ c : Nat, 0 < c ∧ clk = c) :
    boot clk = .fault (.clkNotPositiveInteger clk) := by
  have hcause : clk.den ≠ 1 ∨ clk.num ≤ 0 := by
    rwa [exists_pos_natCast_iff, not_and_or, not_lt] at h
  rw [boot, configCheck, if_pos hcause]

theorem boot_natCast_of_not_legal {c : Nat} (hc : 0 < c) (hN : ¬ Config.Legal c) :
    boot c = .fault (.halfBitTooSmall c (Config.halfBit c)) := by
  rw [boot, configCheck_natCast hc, if_pos (Nat.lt_of_not_le hN)]

/-! ## Legal states run -/

/-- Every run of a legal state answers (60_exceptions.md R160). -/
theorem exists_runTicks_of_legal (hlegal : s.Legal) (k : Nat) : ∃ t, runTicks k s = .next t := by
  obtain ⟨t, hrun, -, -⟩ :=
    exists_runTicks_of_invariant (P := fun _ => True) (fun _ _ _ => trivial) hlegal trivial k
  exact ⟨t, hrun⟩

theorem runTicks_ne_fault (hlegal : s.Legal) (k : Nat) (e : Fault) : runTicks k s ≠ .fault e := by
  obtain ⟨t, hrun⟩ := exists_runTicks_of_legal hlegal k
  simp [hrun]

/-- Settles O2: the check's two branches are the two causes, the bound on `CLK_HZ` decides the second, and a legal state's
run answers a next state, so it answers no fault. -/
theorem configErrorBeforeTickZero : Obligations.ConfigErrorBeforeTickZero := by
  refine ⟨fun _ => boot_of_not_pos_natCast, fun c hc hsmall => ?_, fun c hbound => ?_, fun _ => ⟨rfl, rfl⟩,
    fun _ _ => ⟨rfl, rfl⟩, fun _ => runTicks_ne_fault⟩
  · have hN : ¬ Config.Legal c := by rw [Config.legal_iff_clkHz]; omega
    rw [boot_natCast_of_not_legal hc hN, Config.halfBit_eq_div]
  · exact boot_natCast_of_legal ((Config.legal_iff_clkHz c).mpr hbound)

end Sys2Proof.Machine
end

section
/-! PROOFS. Input programs (60_exceptions.md R177): what the loader accepts and what it refuses, and that a loaded program
leaves a legal state legal. -/

namespace Sys2Proof.Machine

variable {s : State}

theorem encodedRun_wf_iff (r : EncodedRun) : r.wf = true ↔ 1 ≤ r.count ∧ r.word ≤ 3 := by
  rw [EncodedRun.wf, Bool.and_eq_true, decide_eq_true_iff, decide_eq_true_iff]

theorem loadEncoded_of_wf {rs : List EncodedRun} (hwf : ∀ r ∈ rs, 1 ≤ r.count ∧ r.word ≤ 3) (s : State) :
    loadEncoded rs s = .next (s.loadSchedule (rs.map EncodedRun.toInputRun)) := by
  have hall : rs.all EncodedRun.wf = true :=
    List.all_eq_true.mpr fun r hr => (encodedRun_wf_iff r).mpr (hwf r hr)
  rw [loadEncoded, if_pos hall]

/-- One bad run refuses the whole program. -/
theorem loadEncoded_of_not_wf {rs : List EncodedRun} (hbad : ∃ r ∈ rs, r.count < 1 ∨ 3 < r.word) (s : State) :
    loadEncoded rs s = .refused .illegalProgram := by
  obtain ⟨r, hr, hvalue⟩ := hbad
  have hall : ¬ rs.all EncodedRun.wf = true := by
    intro h
    obtain ⟨hcount, hword⟩ := (encodedRun_wf_iff r).mp (List.all_eq_true.mp h r hr)
    omega
  rw [loadEncoded, if_neg hall]

theorem toInputRun_counts {rs : List EncodedRun} (hwf : ∀ r ∈ rs, 1 ≤ r.count ∧ r.word ≤ 3) :
    ∀ r ∈ rs.map EncodedRun.toInputRun, 1 ≤ r.count :=
  List.forall_mem_map.mpr fun r hr => (hwf r hr).1

theorem loadSchedule_legal (hlegal : s.Legal) {l : List InputRun} (hl : ∀ r ∈ l, 1 ≤ r.count) :
    (s.loadSchedule l).Legal := by
  obtain ⟨hclk, hrange, hbits, -⟩ := hlegal
  exact ⟨hclk, hrange, hbits, hl⟩

theorem loadSchedule_sameRegisters (s : State) (l : List InputRun) : (s.loadSchedule l).sameRegisters s := by
  simp [State.sameRegisters]

/-- Settles O52: a program of legal runs passes the loader's check and keeps the state legal, and a legal state runs to every
end tick; a run out of range fails the check of the whole program. -/
theorem everyInputScheduleRuns : Obligations.EveryInputScheduleRuns := by
  refine ⟨fun rs s hlegal hwf => ?_, fun _ s hbad => loadEncoded_of_not_wf hbad s⟩
  have hloaded : (s.loadSchedule (rs.map EncodedRun.toInputRun)).Legal :=
    loadSchedule_legal hlegal (toInputRun_counts hwf)
  exact ⟨_, loadEncoded_of_wf hwf s, loadSchedule_sameRegisters s _, exists_runTicks_of_legal hloaded⟩

end Sys2Proof.Machine
end

section
/-! PROOFS. Reset and tick 0 (70_reset_and_hazards.md R180, R181): which register holds each signal at 0, and that an encoder at
rest steps alike frozen and enabled. -/

namespace Sys2Proof.Machine

variable {s t u : State}

/-- Settles O3: the machine's own reset state is the reset state of its clock, and every field of it is read off. -/
theorem resetState : Obligations.ResetState := by
  intro c s hs
  obtain ⟨clkHz, rfl⟩ : ∃ clkHz, s = State.resetAt clkHz := hs.elim (⟨c, ·⟩) (⟨Config.referenceClkHz, ·⟩)
  simp [State.resetAt]

/-! ## What holds each signal at 0 -/

/-- `N - 1` is at least 1, so a cleared counter is not at the end of a half bit (40_timebase.md R71). -/
theorem hbc_eq_false_of_tbCount (hN : Config.Legal s.clkHz) (hcount : s.tbCount = 0) : s.hbc = false := by
  have hperiod : 2 ≤ s.halfBit := hN
  refine Bool.eq_false_iff.mpr (mt hbc_iff.mp ?_)
  omega

theorem tbCC_eq_false_of_hbc (hpulse : s.hbc = false) : s.tbCC = false := by
  simp [State.tbCC, hpulse]

/-- A frozen encoder emits no pulse (41_manchester_encoder.md R82). -/
theorem encCC_eq_false_of_frozen (hfrozen : s.encEn = false) : s.encCC = false := by
  simp [State.encCC, hfrozen]

theorem encHBC_eq_false_of_frozen (hfrozen : s.encEn = false) : s.encHBC = false := by
  simp [State.encHBC, hfrozen]

theorem dbSample_eq_false_of_dbCount (hcount : s.dbCount = 0) : s.dbSample = false := by
  rw [State.dbSample, hcount]
  decide

theorem dbOut_eq_false_of_dbReg (hreg : s.dbReg = 0) : s.dbOut = false := by
  simp [State.dbOut, hreg]

/-- Whatever the input is, it has not been high (43_trigger_detector.md R122). -/
theorem trgFall_eq_false_of_trgCount (hcount : s.trgCount = 0) : s.trgFall = false := by
  simp [State.trgFall, hcount]

theorem trigger_eq_false_of_trgFall (hfall : s.trgFall = false) : s.trigger = false := by
  simp [State.trigger, hfall]

theorem btnFall_eq_false_of_btnPrev (hprev : s.btnPrev = false) : s.btnFall = false := by
  simp [State.btnFall, hprev]

theorem switchReq_eq_false (hfall : s.btnFall = false) (hpending : s.modePending = false) : s.switchReq = false := by
  simp [State.switchReq, hfall, hpending]

theorem encOut_eq_false_of_idle (hidle : s.encState = .idle) : s.encOut = false := by
  simp [State.encOut, hidle]

theorem outRise_eq_false_of_encOut (hline : s.encOut = false) : s.outRise = false := by
  simp [State.outRise, hline]

theorem running_eq_false_of_idle (hidle : s.ctlState = .idle) : s.running = false := by
  simp [State.running, hidle]

theorem encStart_eq_false_of_idle (hidle : s.ctlState = .idle) : s.encStart = false := by
  simp [State.encStart, hidle]

theorem encStop_eq_false_of_idle (hidle : s.ctlState = .idle) : s.encStop = false := by
  simp [State.encStop, hidle]

/-- Bit 0 of the payload is 1 (20_memory.md R45): the one data signal that is not 0 at reset. -/
theorem bitIn_of_bitCounter_zero (hcount : s.bitCounter = 0) : s.bitIn = true := by
  rw [State.bitIn, hcount]
  decide

/-- An idle controller enables the encoder (44_controller.md R136). -/
theorem enCond_of_idle (hidle : s.ctlState = .idle) : s.enCond = true := by
  simp [State.enCond, hidle]

theorem outputs_low (hline : s.encOut = false) (hrun : s.running = false) (hmode : s.mode = .triggered) :
    s.outputs = ⟨false, false, false⟩ := by
  have hlamp : s.ledMode = false := by
    rw [State.ledMode, hmode]
    rfl
  simp [State.outputs, State.swoOut, State.ledRun, hline, hrun, hlamp]

/-! ## The operations of the encoder and of its enable flag -/

theorem selects_encFrozen (hfrozen : s.encEn = false) : decode .enc (s.key .enc) = .ok .encFrozen := by
  simp only [State.key, decode_enc, hfrozen, Bool.false_eq_true, if_false]

theorem selects_enSet (henable : s.enCond = true) : decode .en (s.key .en) = .ok .enSet := by
  simp only [State.key, decode_en, henable, if_true]

/-! ## The freeze has no later effect -/

/-- The registers and the model's own fields are the whole state. -/
theorem eq_of_sameRegisters (hregs : t.sameRegisters u) (hclk : t.clkHz = u.clkHz) (htick : t.tick = u.tick)
    (hschedule : t.schedule = u.schedule) : t = u := by
  cases t
  cases u
  simp_all [State.sameRegisters]

/-- The encoder and the controller at rest: nothing started, and the two writes of 41_manchester_encoder.md R84 would write what
the registers hold. -/
structure State.AtRest (s : State) : Prop where
  ctlState : s.ctlState = .idle
  encState : s.encState = .idle
  encClkDly : s.encClkDly = s.tbClk
  encStopPend : s.encStopPend = false

theorem resetAt_loadSchedule_atRest (c : Nat) (l : List InputRun) : ((State.resetAt c).loadSchedule l).AtRest :=
  ⟨rfl, rfl, rfl, rfl⟩

/-- ENC.FROZEN and ENC.IDLE leave the encoder's four registers at rest alike (41_manchester_encoder.md R83 to R85). -/
theorem succ_encoder_of_atRest (hrest : s.AtRest) :
    s.succ.encState = .idle ∧ s.succ.encBit = s.encBit ∧ s.succ.encClkDly = s.tbClk ∧ s.succ.encStopPend = false := by
  obtain ⟨hctl, henc, hdly, hpend⟩ := hrest
  simp [State.succ, State.nextEncState, State.nextEncBit, encStart_eq_false_of_idle hctl, encStop_eq_false_of_idle hctl,
    henc, hdly, hpend]

/-- An idle controller reads no pulse of the encoder (44_controller.md R131). -/
theorem succ_controller_of_idle (hidle : s.ctlState = .idle) :
    s.succ.ctlState = (if s.trigger || s.mode == .continuous then .start else .idle) ∧
      s.succ.bitCounter = s.bitCounter := by
  simp [State.succ, State.nextCtlState, State.nextBitCounter, hidle]

/-- At rest the enable flag changes nothing: the encoder and the controller go on alike, EN.SET writes the flag in both, and
no other register is computed from it. -/
theorem succ_writeEnable_of_atRest (hrest : s.AtRest) (v : Bool) : (s.writeEnable v).succ = s.succ := by
  have hrest' : (s.writeEnable v).AtRest := ⟨hrest.ctlState, hrest.encState, hrest.encClkDly, hrest.encStopPend⟩
  obtain ⟨hstate, hbit, hdly, hpend⟩ := succ_encoder_of_atRest hrest
  obtain ⟨hstate', hbit', hdly', hpend'⟩ := succ_encoder_of_atRest hrest'
  obtain ⟨hctl, hcounter⟩ := succ_controller_of_idle hrest.ctlState
  obtain ⟨hctl', hcounter'⟩ := succ_controller_of_idle hrest'.ctlState
  have hen : s.succ.encEn = true := succ_encEn_of_enCond (enCond_of_idle hrest.ctlState)
  have hen' : (s.writeEnable v).succ.encEn = true := succ_encEn_of_enCond (enCond_of_idle hrest'.ctlState)
  refine eq_of_sameRegisters ?_ rfl rfl rfl
  exact ⟨rfl, rfl, hstate'.trans hstate.symm, hbit'.trans hbit.symm, hdly'.trans hdly.symm, hpend'.trans hpend.symm, rfl, rfl,
    rfl, hctl'.trans hctl.symm, hcounter'.trans hcounter.symm, rfl, rfl, hen'.trans hen.symm, rfl, rfl, rfl⟩

/-- States that step alike run alike from the next tick on. -/
theorem runTicks_congr_of_succ (hs : s.Legal) (hu : u.Legal) (hsucc : u.succ = s.succ) (k : Nat) :
    runTicks (k + 1) u = runTicks (k + 1) s := by
  rw [runTicks_succ_of_legal hu, runTicks_succ_of_legal hs, hsucc]

/-- Settles O4: the reset value of one register holds each signal at 0, the idle controller enables the frozen encoder, and a
state at rest steps alike with the flag written to 1. -/
theorem tickZero : Obligations.TickZero := by
  rintro c hN l hl s rfl
  have hlegal := resetAt_loadSchedule_legal hN hl
  have hrest := resetAt_loadSchedule_atRest c l
  have hfrozen : ((State.resetAt c).loadSchedule l).encEn = false := rfl
  have hhalf := hbc_eq_false_of_tbCount (s := (State.resetAt c).loadSchedule l) hN rfl
  have hfall := trgFall_eq_false_of_trgCount (s := (State.resetAt c).loadSchedule l) rfl
  have hrelease := btnFall_eq_false_of_btnPrev (s := (State.resetAt c).loadSchedule l) rfl
  have hline := encOut_eq_false_of_idle hrest.encState
  have hrun := running_eq_false_of_idle hrest.ctlState
  have henable := enCond_of_idle hrest.ctlState
  obtain ⟨hidle, -⟩ := succ_encoder_of_atRest hrest
  exact ⟨hhalf, tbCC_eq_false_of_hbc hhalf, encCC_eq_false_of_frozen hfrozen, encHBC_eq_false_of_frozen hfrozen,
    dbSample_eq_false_of_dbCount rfl, dbOut_eq_false_of_dbReg rfl, hfall, trigger_eq_false_of_trgFall hfall, hrelease,
    outRise_eq_false_of_encOut hline, hrun, encStart_eq_false_of_idle hrest.ctlState, encStop_eq_false_of_idle hrest.ctlState,
    switchReq_eq_false hrelease rfl, bitIn_of_bitCounter_zero rfl, henable, outputs_low hline hrun rfl, hfrozen,
    selects_encFrozen hfrozen, selects_enSet henable, ⟨_, step_of_legal hlegal, succ_encEn_of_enCond henable, hidle⟩,
    runTicks_congr_of_succ hlegal hlegal (succ_writeEnable_of_atRest hrest true)⟩

end Sys2Proof.Machine
end

section
/-! PROOFS. Decode and encode (30_encoding.md R66, R67): an operation's key and its open bits, the decoder's refusals, and written
keys. -/

namespace Sys2Proof

variable {f : Format} {k free : Key} {i : Instr}

/-! ## The rows of the table and the keys of a format -/

/-- The per-operation family of Laws/PerInstr, gathered over the operations. -/
theorem rowForm (i : Instr) : Laws.RowForm.Statement i := by
  cases i
  exacts [Laws.RowForm.tbCount, Laws.RowForm.tbHalf, Laws.RowForm.tbCycle, Laws.RowForm.encFrozen, Laws.RowForm.encIdle,
    Laws.RowForm.encWaitStart, Laws.RowForm.encStartBit, Laws.RowForm.encBitEncode, Laws.RowForm.encStopBit,
    Laws.RowForm.dbWait, Laws.RowForm.dbR0xx0, Laws.RowForm.dbR0001, Laws.RowForm.dbR0011, Laws.RowForm.dbR0101,
    Laws.RowForm.dbR0111, Laws.RowForm.dbR1xx1, Laws.RowForm.dbR1110, Laws.RowForm.dbR1100, Laws.RowForm.dbR1010,
    Laws.RowForm.dbR1000, Laws.RowForm.trgHigh, Laws.RowForm.trgLow, Laws.RowForm.ctlIdle, Laws.RowForm.ctlStart,
    Laws.RowForm.ctlTransmit, Laws.RowForm.ctlStop, Laws.RowForm.enSet, Laws.RowForm.enClear, Laws.RowForm.enHold,
    Laws.RowForm.stSet, Laws.RowForm.stClear, Laws.RowForm.stHold, Laws.RowForm.modeHold, Laws.RowForm.modeT2C,
    Laws.RowForm.modeC2T, Laws.RowForm.modeDefer]

/-- A key fits its format when its bits lie within the format's bits. -/
theorem fits_iff_and_keyMask : k.fits f = true ↔ k &&& f.keyMask = k := by
  cases f <;> revert k <;> decide

theorem wf_iff : k.wf f = true ↔ k.fits f = true ∧ k.reserved f = false := by
  rw [Key.wf, Bool.and_eq_true, Bool.not_eq_true']

/-- A match lies within its mask, so a row's encoding has the row's match under the mask. -/
theorem encode_and_mask (i : Instr) (free : Key) : encode i free &&& i.pattern.mask = i.pattern.pat := by
  obtain ⟨-, hpat, -, -⟩ := rowForm i
  ext j hj
  have hpatj : (i.pattern.pat &&& ~~~i.pattern.mask)[j] = (0 : Key)[j] := by rw [hpat]
  simp only [encode, BitVec.getElem_and, BitVec.getElem_or, BitVec.getElem_not, BitVec.ofNat_eq_ofNat,
    BitVec.getElem_zero] at hpatj ⊢
  revert hpatj
  cases i.pattern.pat[j] <;> cases i.pattern.mask[j] <;> simp

/-- Match and open bits both lie within the format. -/
theorem encode_and_keyMask (i : Instr) (free : Key) : encode i free &&& i.format.keyMask = encode i free := by
  obtain ⟨hmask, hpat, -, -⟩ := rowForm i
  ext j hj
  have hmaskj : (i.pattern.mask &&& ~~~i.format.keyMask)[j] = (0 : Key)[j] := by rw [hmask]
  have hpatj : (i.pattern.pat &&& ~~~i.pattern.mask)[j] = (0 : Key)[j] := by rw [hpat]
  simp only [encode, BitVec.getElem_and, BitVec.getElem_or, BitVec.getElem_not, BitVec.ofNat_eq_ofNat,
    BitVec.getElem_zero] at hmaskj hpatj ⊢
  revert hmaskj hpatj
  cases i.format.keyMask[j] <;> cases i.pattern.mask[j] <;> simp

/-- A key of the format that matches a row is that row's encoding of the key itself. -/
theorem encode_of_matchesKey (hfits : k.fits i.format = true) (hmatch : i.matchesKey k = true) : encode i k = k := by
  have hwidth := fits_iff_and_keyMask.mp hfits
  rw [matchesKey_iff] at hmatch
  ext j hj
  have hwidthj : (k &&& i.format.keyMask)[j] = k[j] := by rw [hwidth]
  rw [encode, ← hmatch]
  simp only [BitVec.getElem_and, BitVec.getElem_or, BitVec.getElem_not] at hwidthj ⊢
  revert hwidthj
  cases i.format.keyMask[j] <;> cases i.pattern.mask[j] <;> simp

/-- A row that leaves no bit of its format open has one key, its match. -/
theorem encode_of_full_mask (hfull : i.pattern.mask = i.format.keyMask) (free : Key) : encode i free = i.pattern.pat := by
  have hopen : ~~~i.format.keyMask &&& i.format.keyMask = 0#5 :=
    (BitVec.and_comm _ _).trans (BitVec.and_not_self _)
  rw [encode, hfull, BitVec.and_assoc, hopen, BitVec.and_zero, BitVec.or_zero]

/-- Of the rows only ENC.FROZEN leaves an `encState` code open (30_encoding.md R67); a full F_ENC row's match is no reserved key. -/
theorem encode_reserved_eq_false (hadmits : i.admits free = true) : (encode i free).reserved i.format = false := by
  cases i with
  | encFrozen => revert free; decide
  | encIdle | encWaitStart | encStartBit | encBitEncode | encStopBit =>
    obtain ⟨-, -, -, hreserved⟩ := rowForm _
    rw [encode_of_full_mask rfl]
    exact hreserved
  | _ => rfl

/-- A legal key's open bits are admitted: the code that ENC.FROZEN leaves open is not reserved. -/
theorem admits_of_wf (hwf : k.wf i.format = true) : i.admits k = true := by
  obtain ⟨-, hreserved⟩ := wf_iff.mp hwf
  cases i with
  | encFrozen => simpa [Instr.admits, Key.reserved, Instr.format] using hreserved
  | _ => rfl

/-! ## Decode and encode agree -/

theorem decode_encode (hadmits : i.admits free = true) : decode i.format (encode i free) = .ok i := by
  have hfits : (encode i free).fits i.format = true := fits_iff_and_keyMask.mpr (encode_and_keyMask i free)
  exact decode_eq_ok_iff.mpr ⟨rfl, matchesKey_iff.mpr (encode_and_mask i free),
    wf_iff.mpr ⟨hfits, encode_reserved_eq_false hadmits⟩⟩

theorem encode_decode (hdecode : decode f k = .ok i) : i.format = f ∧ i.admits k = true ∧ encode i k = k := by
  obtain ⟨rfl, hmatch, hwf⟩ := decode_ok hdecode
  obtain ⟨hfits, -⟩ := wf_iff.mp hwf
  exact ⟨rfl, admits_of_wf hwf, encode_of_matchesKey hfits hmatch⟩

/-- Settles O5: encoding a row and decoding a key are inverse up to the open bits, and the operation a format runs on a tick is
the one row its key matches, as the rows of a format are disjoint. -/
theorem decodeEncodeAgree : Obligations.DecodeEncodeAgree := by
  refine ⟨fun _ _ => decode_encode, fun _ _ _ => encode_decode, fun s f => ?_⟩
  obtain ⟨i, -, hdecode, -, -⟩ := Machine.runFormat_selected f s
  obtain ⟨hformat, hmatch, hwf⟩ := decode_ok hdecode
  exact ⟨i, hdecode, fun j hj hmatchj => rows_disjoint hj hformat hwf hmatchj hmatch⟩

/-- Settles O6: each written key is the one assembled from its fields, most significant first. -/
theorem writtenKeysDecode : Obligations.WrittenKeysDecode :=
  ⟨decode_tb false true, decode_tb true true, decode_tb true false,
    decode_enc false .bitEncode, decode_enc true .bitEncode, decode_enc true .stopBit,
    decode_db false 0b111 true, decode_db true 0b011 false, decode_db true 0b011 true, decode_db true 0b100 false,
    decode_trg true 0b1100, decode_trg false 0b1100,
    decode_ctl .transmit, decode_en true true, decode_en false true, decode_st true false, decode_st false true,
    decode_mode false true true, decode_mode true true true, decode_mode true true false, decode_mode true false true⟩

/-! ## What the decoder refuses -/

/-- Everything the decoder can answer: a key is too wide, else reserved, else it has a row. -/
theorem decode_cases (f : Format) (k : Key) :
    (k.fits f = false ∧ decode f k = .error .keyTooWide) ∨
    (k.fits f = true ∧ k.reserved f = true ∧ decode f k = .error .reservedKey) ∨
    (k.fits f = true ∧ k.reserved f = false ∧ ∃ i, decode f k = .ok i) := by
  cases hfits : k.fits f with
  | false => exact .inl ⟨rfl, by simp [decode, hfits]⟩
  | true =>
    cases hreserved : k.reserved f with
    | true => exact .inr (.inl ⟨rfl, rfl, by simp [decode, hfits, hreserved]⟩)
    | false => exact .inr (.inr ⟨rfl, rfl, exists_decode_of_wf (wf_iff.mpr ⟨hfits, hreserved⟩)⟩)

theorem decode_eq_keyTooWide_iff : decode f k = .error .keyTooWide ↔ k.fits f = false := by
  rcases decode_cases f k with ⟨hfits, herror⟩ | ⟨hfits, -, herror⟩ | ⟨hfits, -, i, hok⟩
  · simp [hfits, herror]
  · simp [hfits, herror]
  · simp [hfits, hok]

theorem decode_eq_reservedKey_iff : decode f k = .error .reservedKey ↔ k.fits f = true ∧ k.reserved f = true := by
  rcases decode_cases f k with ⟨hfits, herror⟩ | ⟨hfits, hreserved, herror⟩ | ⟨hfits, hreserved, i, hok⟩
  · simp [hfits, herror]
  · simp [hfits, hreserved, herror]
  · simp [hreserved, hok]

theorem decode_ne_noRow (f : Format) (k : Key) : decode f k ≠ .error .noRow := by
  rcases decode_cases f k with ⟨-, herror⟩ | ⟨-, -, herror⟩ | ⟨-, -, i, hok⟩
  · simp [herror]
  · simp [herror]
  · simp [hok]

/-- The reserved keys, written out: the three codes without an EncoderState, frozen and enabled (30_encoding.md R67). -/
theorem reserved_enc_iff_mem (hfits : k.fits .enc = true) :
    k.reserved .enc = true ↔ k ∈ ([0b0101, 0b0110, 0b0111, 0b1101, 0b1110, 0b1111] : List Key) := by
  revert k
  decide

theorem reserved_eq_false_of_ne_enc (hf : f ≠ .enc) : k.reserved f = false := by
  cases f with
  | enc => exact absurd rfl hf
  | tb | db | trg | ctl | en | st | mode => rfl

/-- Settles O7: each refusal has its defining test, and the reserved keys are F_ENC's six. -/
theorem reservedKeysRefused : Obligations.ReservedKeysRefused := by
  refine ⟨fun k hfits => ?_, fun f k hf => ?_, decode_ne_noRow, fun _ _ => decode_eq_keyTooWide_iff⟩
  · rw [decode_eq_reservedKey_iff, and_iff_right hfits, reserved_enc_iff_mem hfits]
  · rw [ne_eq, decode_eq_reservedKey_iff, reserved_eq_false_of_ne_enc hf]
    simp

end Sys2Proof
end

section
/-! PROOFS. What each operation does (40_timebase.md to 44_controller.md): its result as a whole state, and its frame, that it
writes only the registers its format owns (30_encoding.md R65). -/

namespace Sys2Proof.Machine

variable {s u : State}

/-! ## Frames -/

/-- `u` differs from `s` at most in the registers that format `f` owns (30_encoding.md R65). -/
structure State.FrameOf (f : Format) (u s : State) : Prop where
  agree : ∀ g : Format, g ≠ f → State.agreeOn g u s
  btnPrev : u.btnPrev = s.btnPrev
  outPrev : u.outPrev = s.outPrev
  clkHz : u.clkHz = s.clkHz
  tick : u.tick = s.tick
  schedule : u.schedule = s.schedule

theorem frameOf_refl (f : Format) (s : State) : State.FrameOf f s s :=
  ⟨fun g _ => by cases g <;> simp [State.agreeOn], rfl, rfl, rfl, rfl, rfl⟩

theorem writeTimebase_frame (s : State) (c : Nat) (k : Bool) : State.FrameOf .tb (s.writeTimebase c k) s :=
  ⟨fun g hg => by cases g <;> simp_all [State.agreeOn], rfl, rfl, rfl, rfl, rfl⟩

theorem writeEncoder_frame (s : State) (e : EncState) (b d p : Bool) : State.FrameOf .enc (s.writeEncoder e b d p) s :=
  ⟨fun g hg => by cases g <;> simp_all [State.agreeOn], rfl, rfl, rfl, rfl, rfl⟩

theorem writeDebouncer_frame (s : State) (c : BitVec 8) (r : BitVec 3) : State.FrameOf .db (s.writeDebouncer c r) s :=
  ⟨fun g hg => by cases g <;> simp_all [State.agreeOn], rfl, rfl, rfl, rfl, rfl⟩

theorem writeTrigger_frame (s : State) (c : BitVec 4) : State.FrameOf .trg (s.writeTrigger c) s :=
  ⟨fun g hg => by cases g <;> simp_all [State.agreeOn], rfl, rfl, rfl, rfl, rfl⟩

theorem writeController_frame (s : State) (x : CtlState) (c : BitVec 5) : State.FrameOf .ctl (s.writeController x c) s :=
  ⟨fun g hg => by cases g <;> simp_all [State.agreeOn], rfl, rfl, rfl, rfl, rfl⟩

theorem writeEnable_frame (s : State) (v : Bool) : State.FrameOf .en (s.writeEnable v) s :=
  ⟨fun g hg => by cases g <;> simp_all [State.agreeOn], rfl, rfl, rfl, rfl, rfl⟩

theorem writeStarting_frame (s : State) (v : Bool) : State.FrameOf .st (s.writeStarting v) s :=
  ⟨fun g hg => by cases g <;> simp_all [State.agreeOn], rfl, rfl, rfl, rfl, rfl⟩

theorem writeMode_frame (s : State) (m : Mode) (p : Bool) : State.FrameOf .mode (s.writeMode m p) s :=
  ⟨fun g hg => by cases g <;> simp_all [State.agreeOn], rfl, rfl, rfl, rfl, rfl⟩

/-- CTL.TRANSMIT is the one operation whose write depends on a signal as a whole (44_controller.md R133). -/
theorem exec_ctlTransmit_frame (s : State) : ∃ u, exec .ctlTransmit s = .next u ∧ State.FrameOf .ctl u s := by
  refine ⟨_, rfl, ?_⟩
  split
  · split
    · exact writeController_frame s _ _
    · exact writeController_frame s _ _
  · exact frameOf_refl .ctl s

/-- Every operation makes a write of its format's owner, or none. -/
theorem exec_frame (i : Instr) (s : State) : ∃ u, exec i s = .next u ∧ State.FrameOf i.format u s := by
  cases i with
  | tbCount | tbHalf | tbCycle => exact ⟨_, rfl, writeTimebase_frame s _ _⟩
  | encIdle | encWaitStart | encStartBit | encBitEncode | encStopBit => exact ⟨_, rfl, writeEncoder_frame s _ _ _ _⟩
  | dbWait | dbR0xx0 | dbR0001 | dbR0011 | dbR0101 | dbR0111 | dbR1xx1 | dbR1110 | dbR1100 | dbR1010 | dbR1000 =>
    exact ⟨_, rfl, writeDebouncer_frame s _ _⟩
  | trgHigh | trgLow => exact ⟨_, rfl, writeTrigger_frame s _⟩
  | ctlIdle | ctlStart | ctlStop => exact ⟨_, rfl, writeController_frame s _ _⟩
  | ctlTransmit => exact exec_ctlTransmit_frame s
  | enSet | enClear => exact ⟨_, rfl, writeEnable_frame s _⟩
  | stSet | stClear => exact ⟨_, rfl, writeStarting_frame s _⟩
  | modeT2C | modeC2T | modeDefer => exact ⟨_, rfl, writeMode_frame s _ _⟩
  | encFrozen | enHold | stHold | modeHold => exact ⟨_, rfl, frameOf_refl _ s⟩

/-- Settles O10: the frame of an operation is the frame of its format's write. -/
theorem operationsWriteTheirFormatOnly : Obligations.OperationsWriteTheirFormatOnly := by
  intro i s
  obtain ⟨u, hexec, hframe⟩ := exec_frame i s
  exact ⟨u, hexec, hframe.agree, hframe.btnPrev, hframe.outPrev, hframe.clkHz, hframe.tick, hframe.schedule⟩

/-! ## The step merges the operations' writes -/

/-- `S(t+1)` has in the registers of each format what the format's operation wrote. -/
theorem succ_agreeOn_of_runFormat {f : Format} (hrun : runFormat f s = .next u) : State.agreeOn f s.succ u := by
  cases f with
  | tb => rw [runFormat_tb] at hrun; cases hrun; exact ⟨rfl, rfl⟩
  | enc =>
    rw [runFormat_enc] at hrun
    cases hrun
    cases hen : s.encEn <;> simp [State.agreeOn, State.succ, State.encEnabledWrite, hen]
  | db => rw [runFormat_db] at hrun; cases hrun; exact ⟨rfl, rfl⟩
  | trg => rw [runFormat_trg] at hrun; cases hrun; exact rfl
  | ctl => rw [runFormat_ctl] at hrun; cases hrun; exact ⟨rfl, rfl⟩
  | en => rw [runFormat_en] at hrun; cases hrun; exact rfl
  | st => rw [runFormat_st] at hrun; cases hrun; exact rfl
  | mode => rw [runFormat_mode] at hrun; cases hrun; exact ⟨rfl, rfl⟩

/-- Settles O9: the tick runs each format's selected operation on `S(t)` and takes its registers from the result. -/
theorem stepRunsSelectedOperations : Obligations.StepRunsSelectedOperations := by
  intro s hlegal
  refine ⟨s.succ, step_of_legal hlegal, fun f => ?_, rfl, rfl, rfl, rfl, rfl⟩
  obtain ⟨i, u, hdecode, hexec, hrun⟩ := runFormat_selected f s
  exact ⟨i, u, hdecode, hexec, succ_agreeOn_of_runFormat hrun⟩

/-! ## Results -/

/-- Settles O11: each of the three is its named write. -/
theorem timebaseOperations : Obligations.TimebaseOperations :=
  fun _ => ⟨rfl, rfl, rfl⟩

/-- Settles O12: ENC.IDLE tests the start pulse, which is the controller's START; the rest are their named writes. -/
theorem encoderOperations : Obligations.EncoderOperations := by
  rintro s pend rfl
  have hidle : (if s.encStart then EncState.waitStart else s.encState) =
      if s.ctlState = .start then .waitStart else s.encState := if_congr encStart_iff rfl rfl
  exact ⟨rfl, hidle ▸ rfl, rfl, rfl, rfl, rfl⟩

/-- Settles O13: each row writes its constant beside the counter, whose eight bits wrap at 256. -/
theorem debouncerOperations : Obligations.DebouncerOperations :=
  fun s => ⟨rfl, rfl, rfl, rfl, rfl, rfl, rfl, rfl, rfl, rfl, rfl, BitVec.toNat_add s.dbCount 1⟩

/-- Settles O14: TRG.HIGH writes the saturated successor, TRG.LOW 0. -/
theorem triggerOperations : Obligations.TriggerOperations :=
  fun s => ⟨⟨_, rfl, rfl, saturatingSucc_toNat s.trgCount⟩, rfl⟩

/-- Settles O15: CTL.TRANSMIT by its two tests, the others by their named writes. -/
theorem controllerOperations : Obligations.ControllerOperations := by
  intro s
  have hidle : exec .ctlIdle s =
      .next { s with ctlState := if s.trigger = true ∨ s.mode = .continuous then .start else s.ctlState } := by
    simp [exec, execCtlIdle, State.writeController]
  refine ⟨hidle, rfl, fun hpulse => ?_, fun hpulse hcounts => ?_, fun hpulse hlast => ?_, rfl⟩
  · simp [exec, execCtlTransmit, hpulse]
  · have hbelow : (s.bitCounter != Config.bitCountMax) = true := bne_iff_ne.mpr hcounts
    simp [exec, execCtlTransmit, State.writeController, hpulse, hbelow]
  · have hat : s.bitCounter = Config.bitCountMax := hlast
    simp [exec, execCtlTransmit, State.writeController, hpulse, hat]

/-- Settles O16: the six are the writes of one flag, and the two holds write nothing. -/
theorem enableAndStartLatchOperations : Obligations.EnableAndStartLatchOperations :=
  fun _ => ⟨rfl, rfl, rfl, rfl, rfl, rfl⟩

/-- Settles O17: MODE.DEFER writes back the mode it reads, the other writes are constants. -/
theorem modeOperations : Obligations.ModeOperations :=
  fun _ => ⟨rfl, rfl, rfl, rfl⟩

/-! ## The payload bit -/

theorem bitIn_of_le (hindex : s.bitCounter.toNat ≤ 15) : s.bitIn = Config.payload.getLsbD s.bitCounter.toNat := by
  rw [State.bitIn, payloadBit, if_pos hindex]

theorem bitIn_of_ge (hindex : 16 ≤ s.bitCounter.toNat) : s.bitIn = false := by
  rw [State.bitIn, payloadBit, if_neg (Nat.not_le.mpr hindex)]

/-- Settles O21: the constant is written out; index 15 divides the two branches of `bitIn`. -/
theorem payloadBitOrder : Obligations.PayloadBitOrder :=
  ⟨rfl, rfl, rfl, by decide, fun _ => bitIn_of_le, fun _ => bitIn_of_ge⟩

end Sys2Proof.Machine
end

section
/-! PROOFS. The frame state machine and the encoder on one tick (44_controller.md R131 to R134, 41_manchester_encoder.md R83 to
R95): the step by the state of each, and what a cycle pulse does in both. -/

namespace Sys2Proof.Machine

variable {s : State}

/-! ## The frame state machine -/

theorem succ_ctlState_of_idle (hidle : s.ctlState = .idle) :
    s.succ.ctlState = if s.trigger = true ∨ s.mode = .continuous then .start else .idle := by
  obtain ⟨hctl, -⟩ := succ_controller_of_idle hidle
  simpa using hctl

/-- While running, the machine moves on a cycle pulse only (44_controller.md R133, R134). -/
theorem succ_controller_of_no_pulse (hrun : s.running = true) (hpulse : s.encCC = false) :
    s.succ.ctlState = s.ctlState ∧ s.succ.bitCounter = s.bitCounter := by
  rcases running_iff.mp hrun with hctl | hctl
  · simp [State.succ, State.nextCtlState, State.nextBitCounter, hctl, hpulse]
  · simp [State.succ, State.nextCtlState, State.nextBitCounter, hctl, hpulse]

/-- A cycle pulse of TRANSMIT counts one bit (44_controller.md R133). -/
theorem succ_controller_of_count (htransmit : s.ctlState = .transmit) (hpulse : s.encCC = true)
    (hcounts : s.bitCounter ≠ 16) : s.succ.ctlState = .transmit ∧ s.succ.bitCounter = s.bitCounter + 1 := by
  have hbelow : (s.bitCounter == Config.bitCountMax) = false := beq_eq_false_iff_ne.mpr hcounts
  simp [State.succ, State.nextCtlState, State.nextBitCounter, htransmit, hpulse, hbelow]

/-- The cycle pulse that finds 16 ends the data (44_controller.md R133). -/
theorem succ_controller_of_last (htransmit : s.ctlState = .transmit) (hpulse : s.encCC = true)
    (hlast : s.bitCounter = 16) : s.succ.ctlState = .stop ∧ s.succ.bitCounter = 0 := by
  have hat : (s.bitCounter == Config.bitCountMax) = true := beq_iff_eq.mpr hlast
  simp [State.succ, State.nextCtlState, State.nextBitCounter, htransmit, hpulse, hat]

theorem succ_controller_of_stop (hstop : s.ctlState = .stop) :
    s.succ.bitCounter = s.bitCounter ∧ s.succ.ctlState = if s.encCC then .idle else .stop := by
  simp [State.succ, State.nextCtlState, State.nextBitCounter, hstop]

/-- A count up to its maximum goes up by one without wrapping its five bits. -/
theorem bitCounter_add_one_toNat (hbits : s.bitCounter.toNat ≤ 16) :
    (s.bitCounter + 1).toNat = s.bitCounter.toNat + 1 := by
  bv_omega

/-- Settles O40: one lemma for each state, and for TRANSMIT one for each of its three cases. -/
theorem frameMachineStep : Obligations.FrameMachineStep := by
  intro s hlegal
  have ⟨_, _, hbits, _⟩ := hlegal
  refine ⟨s.succ, step_of_legal hlegal, fun hidle => ?_, succ_controller_of_start, fun htransmit hpulse => ?_,
    fun htransmit hpulse hcounts => ?_, succ_controller_of_last, succ_controller_of_stop⟩
  · obtain ⟨-, hcounter⟩ := succ_controller_of_idle hidle
    exact ⟨hcounter, succ_ctlState_of_idle hidle⟩
  · obtain ⟨hctl, hcounter⟩ := succ_controller_of_no_pulse (running_iff.mpr (.inl htransmit)) hpulse
    exact ⟨hctl.trans htransmit, hcounter⟩
  · obtain ⟨hctl, hcounter⟩ := succ_controller_of_count htransmit hpulse hcounts
    exact ⟨hctl, hcounter ▸ bitCounter_add_one_toNat hbits⟩

/-! ## The frozen encoder -/

/-- ENC.FROZEN writes none of the encoder's registers (41_manchester_encoder.md R83). -/
theorem succ_encoder_of_frozen (hfrozen : s.encEn = false) : State.agreeOn .enc s.succ s := by
  simp [State.agreeOn, State.succ, hfrozen]

theorem encStop_eq_false_of_no_pulse (hpulse : s.encCC = false) : s.encStop = false :=
  Bool.eq_false_iff.mpr fun hstop => Bool.eq_false_iff.mp hpulse (encCC_of_encStop hstop)

/-- With `N >= 2` neither the count nor the wrap leaves the counter where it was (40_timebase.md R76). -/
theorem succ_tbCount_ne (hN : Config.Legal s.clkHz) : s.succ.tbCount ≠ s.tbCount := by
  have hperiod : 2 ≤ s.halfBit := hN
  by_cases hwrap : s.tbCount = s.halfBit - 1
  · obtain ⟨hcount, -⟩ := succ_timebase_of_wrap hwrap
    omega
  · obtain ⟨hcount, -⟩ := succ_timebase_of_count hwrap
    omega

/-- Settles O30: the freeze holds the encoder's registers, which are all the line reads, and takes the pulse away on which the
frame state machine moves; the two counters read no enable flag. -/
theorem frozenEncoderHolds : Obligations.FrozenEncoderHolds := by
  intro s hlegal hfrozen
  have hpulse := encCC_eq_false_of_frozen hfrozen
  have hholds := succ_encoder_of_frozen hfrozen
  have ⟨hstate, hbit, hdly, _⟩ := hholds
  have ⟨hN, _, _, _⟩ := hlegal
  exact ⟨hpulse, encHBC_eq_false_of_frozen hfrozen, encStop_eq_false_of_no_pulse hpulse, s.succ, step_of_legal hlegal,
    hholds, encOut_congr hstate hbit hdly, fun hrun => succ_controller_of_no_pulse (running_iff.mpr hrun) hpulse,
    succ_tbCount_ne hN, rfl⟩

/-! ## The enabled encoder -/

theorem succ_encState_of_enabled (hen : s.encEn = true) : s.succ.encState = s.nextEncState := by
  simp [State.succ, hen]

theorem succ_encBit_of_enabled (hen : s.encEn = true) : s.succ.encBit = s.nextEncBit := by
  simp [State.succ, hen]

theorem succ_encStopPend_of_enabled (hen : s.encEn = true) :
    s.succ.encStopPend = if s.tbCC then false else s.encStopPend || s.encStop := by
  simp [State.succ, hen]

theorem nextEncState_of_idle (hstate : s.encState = .idle) :
    s.nextEncState = if s.ctlState = .start then .waitStart else .idle := by
  rw [State.nextEncState, hstate]
  exact if_congr encStart_iff rfl rfl

theorem nextEncState_of_waitStart (hstate : s.encState = .waitStart) :
    s.nextEncState = if s.tbCC then .startBit else .waitStart := by
  rw [State.nextEncState, hstate]

theorem nextEncState_of_startBit (hstate : s.encState = .startBit) :
    s.nextEncState = if s.tbCC then .bitEncode else .startBit := by
  rw [State.nextEncState, hstate]

theorem nextEncState_of_bitEncode (hstate : s.encState = .bitEncode) : s.nextEncState =
    if s.tbCC = true ∧ (s.encStop = true ∨ s.encStopPend = true) then .stopBit else .bitEncode := by
  rw [State.nextEncState, hstate]
  exact if_congr (by rw [Bool.and_eq_true, Bool.or_eq_true]) rfl rfl

theorem nextEncState_of_stopBit (hstate : s.encState = .stopBit) :
    s.nextEncState = if s.tbCC then .idle else .stopBit := by
  rw [State.nextEncState, hstate]

/-- START_BIT and BIT_ENCODE latch the offered bit on a boundary (41_manchester_encoder.md R87, R88). -/
theorem nextEncBit_of_latching (hstate : s.encState = .startBit ∨ s.encState = .bitEncode) :
    s.nextEncBit = if s.tbCC then s.bitIn else s.encBit := by
  rcases hstate with hstate | hstate <;> rw [State.nextEncBit, hstate]

theorem nextEncBit_of_holding (hstate : s.encState = .idle ∨ s.encState = .waitStart ∨ s.encState = .stopBit) :
    s.nextEncBit = s.encBit := by
  rcases hstate with hstate | hstate | hstate <;> rw [State.nextEncBit, hstate]

/-- Settles O31: the two writes of R84, and in each state its own next state and next data bit. -/
theorem enabledEncoderStep : Obligations.EnabledEncoderStep := by
  intro s hlegal hen
  refine ⟨s.succ, step_of_legal hlegal, ?_⟩
  rw [succ_encState_of_enabled hen, succ_encBit_of_enabled hen, succ_encStopPend_of_enabled hen]
  exact ⟨succ_encClkDly hen, fun hboundary => if_pos hboundary, fun hinside => if_neg (Bool.eq_false_iff.mp hinside),
    fun hstate => ⟨nextEncBit_of_holding (.inl hstate), nextEncState_of_idle hstate⟩,
    fun hstate => ⟨nextEncBit_of_holding (.inr (.inl hstate)), nextEncState_of_waitStart hstate⟩,
    fun hstate => ⟨nextEncBit_of_latching (.inl hstate), nextEncState_of_startBit hstate⟩,
    fun hstate => ⟨nextEncBit_of_latching (.inr hstate), nextEncState_of_bitEncode hstate⟩,
    fun hstate => ⟨nextEncBit_of_holding (.inr (.inr hstate)), nextEncState_of_stopBit hstate⟩⟩

/-! ## The stop latch -/

/-- A stop comes on a boundary only, and the boundary clears the record instead of setting it (41_manchester_encoder.md R95). -/
theorem succ_encStopPend_eq_false (hpend : s.encStopPend = false) : s.succ.encStopPend = false := by
  cases hen : s.encEn with
  | false => simpa [State.succ, hen] using hpend
  | true =>
    rw [succ_encStopPend_of_enabled hen]
    cases hboundary : s.tbCC with
    | true => rfl
    | false =>
      have hstop : s.encStop = false :=
        encStop_eq_false_of_no_pulse (Bool.eq_false_iff.mpr fun hpulse => by simp [tbCC_of_encCC hpulse] at hboundary)
      simp [hpend, hstop]

/-- Settles O32: the closed step keeps the cleared latch. -/
theorem stopLatchNeverSet : Obligations.StopLatchNeverSet := by
  intro s t hpend hstep
  obtain ⟨-, rfl⟩ := step_eq_next hstep
  exact succ_encStopPend_eq_false hpend

/-! ## The cycle pulses of TRANSMIT -/

/-- On each of the first sixteen pulses the encoder takes the bit of the count, and no stop is asserted. -/
theorem succ_of_data_pulse (htransmit : s.ctlState = .transmit) (hpulse : s.encCC = true)
    (hstate : s.encState = .startBit ∨ s.encState = .bitEncode) (hpend : s.encStopPend = false)
    (hindex : s.bitCounter.toNat ≤ 15) :
    s.succ.encState = .bitEncode ∧ s.succ.encBit = Config.payload.getLsbD s.bitCounter.toNat ∧
      s.succ.bitCounter.toNat = s.bitCounter.toNat + 1 ∧ s.succ.ctlState = .transmit := by
  have hcounts : s.bitCounter ≠ 16 := by bv_omega
  have hstop : s.encStop = false := Bool.eq_false_iff.mpr fun h => by
    obtain ⟨-, -, hlast⟩ := encStop_iff.mp h
    exact hcounts hlast
  obtain ⟨hen, hboundary, -, -⟩ := encCC_iff.mp hpulse
  obtain ⟨hctl, hcounter⟩ := succ_controller_of_count htransmit hpulse hcounts
  refine ⟨?_, ?_, by rw [hcounter, bitCounter_add_one_toNat (by omega)], hctl⟩
  · rw [succ_encState_of_enabled hen]
    rcases hstate with hstart | hdata
    · rw [nextEncState_of_startBit hstart, if_pos hboundary]
    · rw [nextEncState_of_bitEncode hdata, hstop, hpend, if_neg (by simp)]
  · rw [succ_encBit_of_enabled hen, nextEncBit_of_latching hstate, if_pos hboundary, bitIn_of_le hindex]

/-- The seventeenth pulse is the stop, which both machines take on the same tick. -/
theorem succ_of_last_pulse (htransmit : s.ctlState = .transmit) (hpulse : s.encCC = true)
    (hstate : s.encState = .bitEncode) (hlast : s.bitCounter = 16) :
    s.succ.encState = .stopBit ∧ s.succ.ctlState = .stop ∧ s.succ.bitCounter = 0 := by
  have hstop : s.encStop = true := encStop_iff.mpr ⟨htransmit, hpulse, hlast⟩
  obtain ⟨hen, hboundary, -, -⟩ := encCC_iff.mp hpulse
  refine ⟨?_, succ_controller_of_last htransmit hpulse hlast⟩
  rw [succ_encState_of_enabled hen, nextEncState_of_bitEncode hstate, if_pos ⟨hboundary, .inl hstop⟩]

theorem encOut_eq_false_of_stopBit (hstate : s.encState = .stopBit) : s.encOut = false := by
  rw [State.encOut, hstate]

/-- Only the three sending states forward the cycle pulse (41_manchester_encoder.md R82). -/
theorem encState_of_pulse (hpulse : s.encCC = true) (hstop : s.encState ≠ .stopBit) :
    s.encState = .startBit ∨ s.encState = .bitEncode := by
  obtain ⟨-, -, hnotIdle, hnotWait⟩ := encCC_iff.mp hpulse
  cases hstate : s.encState with
  | idle => exact absurd hstate hnotIdle
  | waitStart => exact absurd hstate hnotWait
  | startBit => exact .inl rfl
  | bitEncode => exact .inr rfl
  | stopBit => exact absurd hstate hstop

/-- Settles O42: STOP_BIT goes with STOP, so the pulse finds the encoder in START_BIT or BIT_ENCODE; in START_BIT nothing is
counted yet, so the seventeenth pulse finds BIT_ENCODE. -/
theorem cyclePulseLatchesPayloadBit : Obligations.CyclePulseLatchesPayloadBit := by
  intro s hcoherent htransmit hpulse
  obtain ⟨hlegal, hpend, -, -, -, -, hstopIff, -, -, hnoneCounted⟩ := hcoherent
  have hstate := encState_of_pulse hpulse fun hstop => absurd (hstopIff.mpr hstop) (by simp [htransmit])
  refine ⟨s.succ, step_of_legal hlegal, succ_of_data_pulse htransmit hpulse hstate hpend, fun hlast => ?_⟩
  have hdata : s.encState = .bitEncode := hstate.resolve_left fun hstart =>
    absurd (hnoneCounted (.inr hstart)) (by rw [hlast]; decide)
  obtain ⟨hstop, hctl, hcounter⟩ := succ_of_last_pulse htransmit hpulse hdata hlast
  exact ⟨hstop, hctl, hcounter, encOut_eq_false_of_stopBit hstop⟩

end Sys2Proof.Machine
end

section
/-! PROOFS. The controller's flags and the trigger counter on one tick (44_controller.md R135 to R145, 43_trigger_detector.md R120 to
R122): the edge registers, the enable flag, the start latch, the mode register, and events that meet on one tick. -/

namespace Sys2Proof.Machine

variable {s : State}

/-! ## The trigger counter -/

theorem succ_trgCount_of_low (hlow : s.triggerIn = false) : s.succ.trgCount = 0 := by
  simp [State.succ, hlow]

/-- The counter after the tick remembers whether the input was high: counting up never reaches 0, as it saturates. -/
theorem succ_trgCount_ne_zero_iff : s.succ.trgCount ≠ 0 ↔ s.triggerIn = true := by
  cases hinput : s.triggerIn with
  | false => simp [succ_trgCount_of_low hinput]
  | true =>
    have hcount := succ_trgCount_toNat_of_high hinput
    simp only [iff_true]
    bv_omega

/-- Settles O38: the window needs no other test of the falling tick, and the counter goes by the input of the tick. -/
theorem triggerCounterStep : Obligations.TriggerCounterStep :=
  fun s => ⟨trigger_iff, fun hlegal => ⟨s.succ, step_of_legal hlegal, succ_trgCount_toNat_of_high, succ_trgCount_of_low,
    succ_trgCount_ne_zero_iff⟩⟩

/-! ## The edge registers -/

@[simp] theorem succ_btnPrev (s : State) : s.succ.btnPrev = s.dbOut := rfl
@[simp] theorem succ_outPrev (s : State) : s.succ.outPrev = s.encOut := rfl

theorem btnFall_iff : s.btnFall = true ↔ s.btnPrev = true ∧ s.dbOut = false := by
  rw [State.btnFall, Bool.and_eq_true, Bool.not_eq_true']

theorem outRise_iff : s.outRise = true ↔ s.outPrev = false ∧ s.encOut = true := by
  rw [State.outRise, Bool.and_eq_true, Bool.not_eq_true', and_comm]

/-- Settles O43: on the next tick the registers hold this tick's levels, so the edges compare the two ticks. -/
theorem edgesSeenOnFirstTick : Obligations.EdgesSeenOnFirstTick :=
  fun s hlegal => ⟨s.succ, step_of_legal hlegal, succ_btnPrev s, succ_outPrev s, btnFall_iff, outRise_iff⟩

/-! ## The enable flag -/

theorem disCond_iff : s.disCond = true ↔
    s.mode = .triggered ∧ s.running = true ∧ s.outRise = true ∧ s.starting = false := by
  rw [State.disCond, Bool.and_eq_true, Bool.and_eq_true, Bool.and_eq_true, Bool.not_eq_true', beq_iff_eq, and_assoc,
    and_assoc]

/-- An accepted trigger alone is an enable condition (44_controller.md R136). -/
theorem enCond_of_trigger (htrigger : s.trigger = true) : s.enCond = true := by
  simp [State.enCond, htrigger]

theorem succ_encEn_of_disCond (henable : s.enCond = false) (hdisable : s.disCond = true) : s.succ.encEn = false := by
  simp [State.succ, henable, hdisable]

theorem succ_encEn_of_hold (henable : s.enCond = false) (hdisable : s.disCond = false) :
    s.succ.encEn = s.encEn := by
  simp [State.succ, henable, hdisable]

/-- Without a disable condition an enabled encoder stays enabled. -/
theorem succ_encEn_of_not_disCond (hdisable : s.disCond = false) (hen : s.encEn = true) : s.succ.encEn = true := by
  simp [State.succ, hdisable, hen]

/-- A freeze takes the disable condition, against no enable condition. -/
theorem conditions_of_freeze (hen : s.encEn = true) (hfreeze : s.succ.encEn = false) :
    s.enCond = false ∧ s.disCond = true := by
  have henable : s.enCond = false := Bool.eq_false_iff.mpr fun h => by simp [succ_encEn_of_enCond h] at hfreeze
  refine ⟨henable, ?_⟩
  cases hdisable : s.disCond with
  | true => rfl
  | false => simp [succ_encEn_of_not_disCond hdisable hen] at hfreeze

/-- Settles O44: EN.SET is tested before EN.CLEAR, and a freeze has the four parts of the disable condition without the trigger
that would enable. -/
theorem enablePriority : Obligations.EnablePriority := by
  intro s hlegal
  refine ⟨s.succ, step_of_legal hlegal, succ_encEn_of_enCond, succ_encEn_of_disCond, succ_encEn_of_hold,
    fun hen hfreeze => ?_⟩
  obtain ⟨henable, hdisable⟩ := conditions_of_freeze hen hfreeze
  obtain ⟨hmode, hrun, hrise, hlatch⟩ := disCond_iff.mp hdisable
  have htrigger : s.trigger = false := Bool.eq_false_iff.mpr fun h => by simp [enCond_of_trigger h] at henable
  exact ⟨hmode, hrun, hrise, hlatch, htrigger⟩

/-! ## The start latch -/

theorem stClear_iff : s.stClear = true ↔ s.running = true ∧ s.outRise = true ∧ s.starting = true := by
  rw [State.stClear, Bool.and_eq_true, Bool.and_eq_true, and_assoc]

/-- START is no running state, so the latch's set and clear conditions exclude each other (60_exceptions.md R165). -/
theorem encStart_eq_false_of_running (hrun : s.running = true) : s.encStart = false :=
  Bool.eq_false_iff.mpr fun hstart => by simp [running_eq_false_of_start (encStart_iff.mp hstart)] at hrun

/-- The first rise leaves the latch 0, cleared by it or 0 before (44_controller.md R140). -/
theorem succ_starting_of_rise (hrun : s.running = true) (hrise : s.outRise = true) : s.succ.starting = false := by
  cases hlatch : s.starting with
  | true => simp [State.succ, encStart_eq_false_of_running hrun, stClear_iff.mpr ⟨hrun, hrise, hlatch⟩]
  | false => simp [State.succ, encStart_eq_false_of_running hrun, hlatch]

theorem succ_starting_of_hold (hstart : s.ctlState ≠ .start) (hrise : ¬ (s.running = true ∧ s.outRise = true)) :
    s.succ.starting = s.starting := by
  have hset : s.encStart = false := Bool.eq_false_iff.mpr (mt encStart_iff.mp hstart)
  have hclear : s.stClear = false := Bool.eq_false_iff.mpr fun h => by
    obtain ⟨hrun, hrise', -⟩ := stClear_iff.mp h
    exact hrise ⟨hrun, hrise'⟩
  simp [State.succ, hset, hclear]

/-- The latch masks the disable condition (44_controller.md R136). -/
theorem disCond_eq_false_of_starting (hlatch : s.starting = true) : s.disCond = false := by
  simp [State.disCond, hlatch]

/-- Settles O45: the latch's three operations, and a set latch keeps the disable condition away on the rise that clears it. -/
theorem startLatchStep : Obligations.StartLatchStep :=
  fun s hlegal => ⟨s.succ, step_of_legal hlegal, fun hstart => succ_starting_of_encStart (encStart_iff.mpr hstart),
    succ_starting_of_rise, fun _ _ hlatch => succ_encEn_of_not_disCond (disCond_eq_false_of_starting hlatch),
    succ_starting_of_hold⟩

/-! ## The mode register -/

theorem switchReq_iff : s.switchReq = true ↔ s.btnFall = true ∨ s.modePending = true := by
  rw [State.switchReq, Bool.or_eq_true]

/-- MODE.HOLD writes neither register (44_controller.md R142). -/
theorem succ_mode_of_no_request (hrequest : s.switchReq = false) :
    s.succ.mode = s.mode ∧ s.succ.modePending = s.modePending := by
  simp [State.succ, State.nextMode, State.nextModePending, hrequest]

/-- MODE.C2T runs in STOP (44_controller.md R144). -/
theorem succ_mode_of_request_stop (hrequest : s.switchReq = true) (hmode : s.mode = .continuous)
    (hstop : s.ctlState = .stop) : s.succ.mode = .triggered ∧ s.succ.modePending = false := by
  simp [State.succ, State.nextMode, State.nextModePending, hrequest, hmode, hstop]

/-- MODE.DEFER runs outside STOP (44_controller.md R145). -/
theorem succ_mode_of_request_deferred (hrequest : s.switchReq = true) (hmode : s.mode = .continuous)
    (hstop : s.ctlState ≠ .stop) : s.succ.mode = .continuous ∧ s.succ.modePending = true := by
  simp [State.succ, State.nextMode, State.nextModePending, hrequest, hmode, hstop]

/-- Settles O46: the four operations of the mode register, by request, mode and STOP. -/
theorem modeRegisterStep : Obligations.ModeRegisterStep := by
  intro s hlegal
  refine ⟨s.succ, step_of_legal hlegal, fun hfall hpending => ?_, fun hrequest => ?_⟩
  · obtain ⟨hmode, hpending'⟩ := succ_mode_of_no_request (switchReq_eq_false hfall hpending)
    exact ⟨hmode, hpending'.trans hpending⟩
  · have hrequest := switchReq_iff.mpr hrequest
    exact ⟨fun hmode => succ_mode_of_request_triggered hmode hrequest, succ_mode_of_request_stop hrequest,
      succ_mode_of_request_deferred hrequest⟩

/-! ## Events on one tick -/

/-- Settles O48: the running states exclude START; the trigger enables whatever would disable; and the frame state machine and
the mode register each act on its own event. -/
theorem simultaneousEvents : Obligations.SimultaneousEvents := by
  intro s hlegal
  refine ⟨fun ⟨hset, hclear⟩ => ?_, s.succ, step_of_legal hlegal,
    fun htrigger _ => succ_encEn_of_enCond (enCond_of_trigger htrigger),
    fun hidle hmode htrigger hfall => ?_, fun hstop hmode hpulse hfall => ?_⟩
  · obtain ⟨hrun, -, -⟩ := stClear_iff.mp hclear
    simp [encStart_eq_false_of_running hrun] at hset
  · obtain ⟨hcontinuous, -⟩ := succ_mode_of_request_triggered hmode (switchReq_iff.mpr (.inl hfall))
    exact ⟨(succ_ctlState_of_idle hidle).trans (if_pos (.inl htrigger)), hcontinuous⟩
  · obtain ⟨-, hctl⟩ := succ_controller_of_stop hstop
    exact ⟨hctl.trans (if_pos hpulse), succ_mode_of_request_stop (switchReq_iff.mpr (.inl hfall)) hmode hstop⟩

/-- Settles O49: CONTINUOUS is an enable condition, and an enabled encoder leaves `ledRun` to the running states. -/
theorem continuousNeverFreezes : Obligations.ContinuousNeverFreezes := by
  intro s hlegal hmode
  have hen : s.succ.encEn = true := succ_encEn_of_enCond (enCond_of_continuous hmode)
  exact ⟨s.succ, step_of_legal hlegal, hen, ledRun_iff.trans (and_iff_left hen)⟩

end Sys2Proof.Machine
end

section
/-! PROOFS. The invariants of the tick (10_state.md R39, 40_timebase.md R77, 60_exceptions.md R67, R160): what every step keeps, that
reset has it, and the states that do not step. -/

namespace Sys2Proof.Machine

variable {s : State}

/-! ## Legal states, the configuration and the phase -/

/-- Settles O22: a legal state steps to a legal state, and the runs are the induction over that step. -/
theorem legalStatesRunForever : Obligations.LegalStatesRunForever := by
  intro s hlegal
  refine ⟨⟨s.succ, step_of_legal hlegal, succ_legal hlegal⟩, fun k => ?_⟩
  obtain ⟨t, hrun, hlegal', -⟩ :=
    exists_runTicks_of_invariant (P := fun _ => True) (fun _ _ _ => trivial) hlegal trivial k
  exact ⟨t, hrun, hlegal'⟩

/-- Settles O27: no step writes the field, by induction over the run. -/
theorem configurationFixed : Obligations.ConfigurationFixed := by
  intro k s t hrun
  obtain ⟨hclk, -⟩ := runTicks_clkHz_tick hrun
  exact hclk

/-- Settles O24: a counting tick keeps the quotient of the tick number, a wrapping one adds one to it. -/
theorem timebasePhaseKept : Obligations.TimebasePhaseKept := by
  intro s t hlegal hphase hstep
  obtain ⟨-, rfl⟩ := step_eq_next hstep
  exact succ_inPhase hlegal hphase

/-! ## Coherence -/

/-- The relations of 10_state.md R39 between the two machines, by the controller's state: where the encoder is, what is counted,
and where it is enabled for certain. -/
inductive State.FrameShape (s : State) : Prop
  | idle (hctl : s.ctlState = .idle) (hstate : s.encState = .idle) (hcounter : s.bitCounter = 0)
      (hen : 1 ≤ s.tick → s.encEn = true)
  | start (hctl : s.ctlState = .start) (hstate : s.encState = .idle) (hcounter : s.bitCounter = 0) (hen : s.encEn = true)
  | transmit (hctl : s.ctlState = .transmit) (hstate : s.encState ≠ .stopBit)
      (hcounter : s.encState = .waitStart ∨ s.encState = .startBit → s.bitCounter = 0)
  | stop (hctl : s.ctlState = .stop) (hstate : s.encState = .stopBit) (hcounter : s.bitCounter = 0)

theorem frameShape_of_coherent (h : s.Coherent) : s.FrameShape := by
  obtain ⟨-, -, hstartEnabled, hidleEnabled, hcleared, hencoderIdle, hstopIff, -, -, hnoneCounted⟩ := h
  cases hctl : s.ctlState with
  | idle => exact .idle hctl (hencoderIdle (.inl hctl)) (hcleared (by simp [hctl])) (hidleEnabled hctl)
  | start => exact .start hctl (hencoderIdle (.inr hctl)) (hcleared (by simp [hctl])) (hstartEnabled hctl)
  | transmit => exact .transmit hctl (fun hstate => by simpa [hctl] using hstopIff.mpr hstate) hnoneCounted
  | stop => exact .stop hctl (hstopIff.mp hctl) (hcleared (by simp [hctl]))

theorem coherent_of_frameShape (hlegal : s.Legal) (hpend : s.encStopPend = false)
    (hmode : s.modePending = true → s.mode = .continuous) (hshape : s.FrameShape) : s.Coherent := by
  refine ⟨hlegal, hpend, ?_⟩
  cases hshape with
  | idle hctl hstate hcounter hen => simpa [hctl, hstate, hcounter] using ⟨hen, hmode⟩
  | start hctl hstate hcounter hen => simpa [hctl, hstate, hcounter, hen] using hmode
  | transmit hctl hstate hcounter => simpa [hctl, hstate] using ⟨hmode, hcounter⟩
  | stop hctl hstate hcounter => simpa [hctl, hstate, hcounter] using hmode

/-- IDLE waits or starts, and enables the encoder either way. -/
theorem succ_frameShape_of_idle (hctl : s.ctlState = .idle) (hstate : s.encState = .idle) (hcounter : s.bitCounter = 0) :
    s.succ.FrameShape := by
  have hen : s.succ.encEn = true := succ_encEn_of_enCond (enCond_of_idle hctl)
  have hctl' := succ_ctlState_of_idle hctl
  obtain ⟨-, hcounter'⟩ := succ_controller_of_idle hctl
  have hstate' : s.succ.encState = .idle := by
    simp [State.succ, nextEncState_of_idle hstate, hctl, hstate]
  split at hctl'
  · exact .start hctl' hstate' (hcounter'.trans hcounter) hen
  · exact .idle hctl' hstate' (hcounter'.trans hcounter) fun _ => hen

theorem succ_frameShape_of_start (hctl : s.ctlState = .start) (hstate : s.encState = .idle) (hen : s.encEn = true) :
    s.succ.FrameShape := by
  obtain ⟨hctl', hcounter'⟩ := succ_controller_of_start hctl
  have hstate' := succ_encState_of_encStart hen hstate (encStart_iff.mpr hctl)
  exact .transmit hctl' (by simp [hstate']) fun _ => hcounter'

/-- The encoder enters STOP_BIT from BIT_ENCODE only, by a stop (41_manchester_encoder.md R88). -/
theorem succ_encState_ne_stopBit (hstate : s.encState ≠ .stopBit) (hpend : s.encStopPend = false)
    (hstop : s.encStop = false) : s.succ.encState ≠ .stopBit := by
  cases hen : s.encEn with
  | false => simpa [State.succ, hen] using hstate
  | true =>
    rw [succ_encState_of_enabled hen, State.nextEncState]
    cases hnow : s.encState with
    | stopBit => exact absurd hnow hstate
    | idle | waitStart | startBit => simp only; split <;> simp
    | bitEncode => simp [hstop, hpend]

/-- WAIT_START and START_BIT are reached from the three states before the data (41_manchester_encoder.md R85, R86). -/
theorem encState_of_succ_before_data (h : s.succ.encState = .waitStart ∨ s.succ.encState = .startBit) :
    (s.encState = .idle ∧ s.ctlState = .start) ∨ s.encState = .waitStart ∨ s.encState = .startBit := by
  cases hen : s.encEn with
  | false => simpa [State.succ, hen, or_assoc] using Or.inr h
  | true =>
    rw [succ_encState_of_enabled hen] at h
    cases hnow : s.encState with
    | idle =>
      refine .inl ⟨rfl, ?_⟩
      by_contra hctl
      simp [nextEncState_of_idle hnow, hctl] at h
    | waitStart => simp
    | startBit => simp
    | bitEncode => rw [nextEncState_of_bitEncode hnow] at h; split at h <;> simp at h
    | stopBit => rw [nextEncState_of_stopBit hnow] at h; split at h <;> simp at h

/-- A cycle pulse of START_BIT leaves it, so nothing is counted before the data starts (log 10). -/
theorem succ_bitCounter_before_data (htransmit : s.ctlState = .transmit)
    (hcounter : s.encState = .waitStart ∨ s.encState = .startBit → s.bitCounter = 0)
    (h : s.succ.encState = .waitStart ∨ s.succ.encState = .startBit) : s.succ.bitCounter = 0 := by
  have hbefore : s.encState = .waitStart ∨ s.encState = .startBit := by
    simpa [htransmit] using encState_of_succ_before_data h
  have hpulse : s.encCC = false := by
    by_contra hpulse
    obtain ⟨hen, hboundary, -, hnotWait⟩ := encCC_iff.mp (Bool.not_eq_false _ ▸ hpulse)
    rw [succ_encState_of_enabled hen, nextEncState_of_startBit (hbefore.resolve_left hnotWait), if_pos hboundary] at h
    simp at h
  obtain ⟨-, hholds⟩ := succ_controller_of_no_pulse (running_iff.mpr (.inl htransmit)) hpulse
  exact hholds.trans (hcounter hbefore)

/-- TRANSMIT goes on until a stop, which takes both machines on. -/
theorem succ_frameShape_of_transmit (hctl : s.ctlState = .transmit) (hstate : s.encState ≠ .stopBit)
    (hcounter : s.encState = .waitStart ∨ s.encState = .startBit → s.bitCounter = 0) (hpend : s.encStopPend = false) :
    s.succ.FrameShape := by
  cases hstop : s.encStop with
  | true =>
    obtain ⟨-, hpulse, hlast⟩ := encStop_iff.mp hstop
    have hdata : s.encState = .bitEncode := (encState_of_pulse hpulse hstate).resolve_left fun hstart =>
      absurd (hcounter (.inr hstart)) (by rw [hlast]; decide)
    obtain ⟨hstate', hctl', hcounter'⟩ := succ_of_last_pulse hctl hpulse hdata hlast
    exact .stop hctl' hstate' hcounter'
  | false =>
    have hctl' : s.succ.ctlState = .transmit := by
      cases hpulse : s.encCC with
      | false => exact (succ_controller_of_no_pulse (running_iff.mpr (.inl hctl)) hpulse).1.trans hctl
      | true =>
        have hcounts : s.bitCounter ≠ 16 := fun hlast => by simp [encStop_iff.mpr ⟨hctl, hpulse, hlast⟩] at hstop
        exact (succ_controller_of_count hctl hpulse hcounts).1
    exact .transmit hctl' (succ_encState_ne_stopBit hstate hpend hstop) (succ_bitCounter_before_data hctl hcounter)

/-- The pulse that ends the stop symbol takes both machines to IDLE (44_controller.md R134, 41_manchester_encoder.md R89). -/
theorem succ_of_stop_pulse (hctl : s.ctlState = .stop) (hstate : s.encState = .stopBit) (hpulse : s.encCC = true) :
    s.succ.ctlState = .idle ∧ s.succ.encState = .idle ∧ s.succ.encEn = true := by
  obtain ⟨hen, hboundary, -, -⟩ := encCC_iff.mp hpulse
  obtain ⟨-, hctl'⟩ := succ_controller_of_stop hctl
  have hline := outRise_eq_false_of_encOut (encOut_eq_false_of_stopBit hstate)
  refine ⟨hctl'.trans (if_pos hpulse), ?_, succ_encEn_of_not_disCond (by simp [State.disCond, hline]) hen⟩
  rw [succ_encState_of_enabled hen, nextEncState_of_stopBit hstate, if_pos hboundary]

/-- Without the pulse STOP_BIT stays, frozen or inside its symbol. -/
theorem succ_encState_of_stopBit (hstate : s.encState = .stopBit) (hpulse : s.encCC = false) :
    s.succ.encState = .stopBit := by
  cases hen : s.encEn with
  | false => simpa [State.succ, hen] using hstate
  | true =>
    have hinside : s.tbCC = false := by simpa [State.encCC, State.encSending, hen, hstate] using hpulse
    rw [succ_encState_of_enabled hen, nextEncState_of_stopBit hstate, hinside]
    rfl

theorem succ_frameShape_of_stop (hctl : s.ctlState = .stop) (hstate : s.encState = .stopBit)
    (hcounter : s.bitCounter = 0) : s.succ.FrameShape := by
  obtain ⟨hcounter', hctl'⟩ := succ_controller_of_stop hctl
  cases hpulse : s.encCC with
  | true =>
    obtain ⟨hidle, hstate', hen⟩ := succ_of_stop_pulse hctl hstate hpulse
    exact .idle hidle hstate' (hcounter'.trans hcounter) fun _ => hen
  | false =>
    have hstays : s.succ.ctlState = .stop := by simpa [hpulse] using hctl'
    exact .stop hstays (succ_encState_of_stopBit hstate hpulse) (hcounter'.trans hcounter)

theorem succ_frameShape (hshape : s.FrameShape) (hpend : s.encStopPend = false) : s.succ.FrameShape := by
  cases hshape with
  | idle hctl hstate hcounter _ => exact succ_frameShape_of_idle hctl hstate hcounter
  | start hctl hstate _ hen => exact succ_frameShape_of_start hctl hstate hen
  | transmit hctl hstate hcounter => exact succ_frameShape_of_transmit hctl hstate hcounter hpend
  | stop hctl hstate hcounter => exact succ_frameShape_of_stop hctl hstate hcounter

/-- A request is held in CONTINUOUS only (44_controller.md R145). -/
theorem succ_mode_of_pending (hmode : s.modePending = true → s.mode = .continuous) (hpending : s.succ.modePending = true) :
    s.succ.mode = .continuous := by
  cases hrequest : s.switchReq with
  | false =>
    obtain ⟨hmode', hpending'⟩ := succ_mode_of_no_request hrequest
    exact hmode'.trans (hmode (hpending'.symm.trans hpending))
  | true =>
    cases hnow : s.mode with
    | triggered => exact (succ_mode_of_request_triggered hnow hrequest).1
    | continuous =>
      have hstop : s.ctlState ≠ .stop := fun hstop => by
        simp [(succ_mode_of_request_stop hrequest hnow hstop).2] at hpending
      exact (succ_mode_of_request_deferred hrequest hnow hstop).1

theorem succ_coherent (h : s.Coherent) : s.succ.Coherent := by
  have ⟨hlegal, hpend, _, _, _, _, _, _, hmode, _⟩ := h
  exact coherent_of_frameShape (succ_legal hlegal) (succ_encStopPend_eq_false hpend) (succ_mode_of_pending hmode)
    (succ_frameShape (frameShape_of_coherent h) hpend)

/-- Settles O23: the two machines' relations are kept state by state of the controller; the stop latch and the pending switch
keep theirs by themselves. -/
theorem coherenceKept : Obligations.CoherenceKept := by
  intro s t hcoherent hstep
  obtain ⟨-, rfl⟩ := step_eq_next hstep
  exact succ_coherent hcoherent

/-- Settles O25: at reset both machines are idle, nothing is counted and nothing is pending. -/
theorem resetCoherentInPhase : Obligations.ResetCoherentInPhase := by
  intro c hN l hl
  have hidle : ((State.resetAt c).loadSchedule l).FrameShape := .idle rfl rfl rfl fun htick =>
    absurd htick (Nat.not_succ_le_zero 0)
  exact ⟨coherent_of_frameShape (resetAt_loadSchedule_legal hN hl) rfl (absurd · Bool.false_ne_true) hidle,
    resetAt_loadSchedule_inPhase c l⟩

/-! ## A freeze on the way into STOP -/

/-- The seventeenth pulse of a TRIGGERED frame at `N = 2`, on a tick on which the line rises and no trigger comes. -/
def riseOnLastPulse : State :=
  { State.resetAt 460800 with
      encEn := true, ctlState := .transmit, encState := .bitEncode, bitCounter := 16, tbCount := 1, tick := 1,
      schedule := [⟨1, 0b00⟩] }

/-- Settles O26: the rise that the bit before the stop makes freezes the encoder as both machines take the stop. -/
theorem frozenInStopOccurs : Obligations.FrozenInStopOccurs := by
  have hcoherent : riseOnLastPulse.Coherent := by decide
  have ⟨hlegal, _⟩ := hcoherent
  obtain ⟨hstate, hctl, -⟩ := succ_of_last_pulse (s := riseOnLastPulse) rfl (by decide) rfl rfl
  exact ⟨riseOnLastPulse, riseOnLastPulse.succ, hcoherent, rfl, step_of_legal hlegal, succ_coherent hcoherent, hctl, hstate,
    succ_encEn_of_disCond (by decide) (by decide), by decide⟩

/-! ## Unreachable counter values -/

/-- The check of a state runs before any operation (30_encoding.md R67). -/
theorem step_of_validated_refused {r : Refusal} (h : validated s = .refused r) : step s = .refused r := by
  simp only [step, tickStep, h, andThen]

theorem validated_of_legal_clkHz (hN : Config.Legal s.clkHz) : validated s =
    if s.halfBit ≤ s.tbCount then .refused .tbCountOutOfRange
    else if Config.bitCountMax.toNat < s.bitCounter.toNat then .refused .bitCounterOutOfRange
    else if s.schedule.all InputRun.wf then .next s
    else .refused .illegalProgram := by
  have hclk : s.clkHz ≠ 0 := fun hzero => by simp [Config.Legal, hzero, Config.halfBit] at hN
  have hperiod : ¬ s.halfBit < 2 := Nat.not_lt.mpr hN
  rw [validated, if_neg hclk, if_neg hperiod]

/-- Settles O53: at a legal configuration the two range checks come first, in this order. -/
theorem unreachableValuesRefused : Obligations.UnreachableValuesRefused := by
  refine fun s hN => ⟨fun hcount => step_of_validated_refused ?_, fun hrange hbits => step_of_validated_refused ?_⟩
  · rw [validated_of_legal_clkHz hN, if_pos hcount]
  · have hbits' : Config.bitCountMax.toNat < s.bitCounter.toNat := hbits
    rw [validated_of_legal_clkHz hN, if_neg (Nat.not_le.mpr hrange), if_pos hbits']

end Sys2Proof.Machine
end

section
/-! PROOFS. The debouncer on one tick and over four samples (42_button_debouncer.md R100 to R117). -/

namespace Sys2Proof.Machine

variable {s t u : State} {k : Nat}

/-! ## One tick -/

/-- Two ticks of the eight-bit counter are sample ticks (42_button_debouncer.md R100). -/
theorem dbSample_iff : s.dbSample = true ↔ s.dbCount.toNat % 128 = 127 := by
  rw [State.dbSample, beq_iff_eq, BitVec.toNat_eq, BitVec.extractLsb'_toNat, Nat.shiftRight_zero]
  rfl

theorem succ_dbCount_toNat_mod (s : State) : s.succ.dbCount.toNat = (s.dbCount.toNat + 1) % 256 := by
  rw [succ_dbCount, BitVec.toNat_add]
  rfl

theorem succ_dbReg_of_wait (hwait : s.dbCount.toNat % 128 ≠ 127) : s.succ.dbReg = s.dbReg := by
  rw [succ_dbReg, if_neg (mt dbSample_iff.mp hwait)]

theorem succ_dbReg_of_sample (hsample : s.dbCount.toNat % 128 = 127) : s.succ.dbReg = dbNext s.dbReg s.buttonIn := by
  rw [succ_dbReg, if_pos (dbSample_iff.mpr hsample)]

/-- The rows of a 1 sample (42_button_debouncer.md R104 to R108). -/
theorem dbNext_true_rows (r : BitVec 3) :
    (r = 0 → dbNext r true = 1) ∧ (r = 1 → dbNext r true = 2) ∧ (r = 2 → dbNext r true = 3) ∧
      (r = 3 → dbNext r true = 7) ∧ (4 ≤ r.toNat → dbNext r true = 7) := by
  refine ⟨?_, ?_, ?_, ?_, fun hhigh => ?_⟩
  case refine_5 => simp [dbNext, show 3 ≤ r.toNat by omega]
  all_goals rintro rfl; rfl

/-- The rows of a 0 sample (42_button_debouncer.md R103, R109 to R112). -/
theorem dbNext_false_rows (r : BitVec 3) :
    (r = 7 → dbNext r false = 6) ∧ (r = 6 → dbNext r false = 5) ∧ (r = 5 → dbNext r false = 4) ∧
      (r = 4 → dbNext r false = 0) ∧ (r.toNat ≤ 3 → dbNext r false = 0) := by
  refine ⟨?_, ?_, ?_, ?_, fun hlow => ?_⟩
  case refine_5 => simp [dbNext, show r.toNat ≤ 4 by omega]
  all_goals rintro rfl; rfl

/-- Settles O34: off a sample tick DB.WAIT holds the register, on one the table's rows for the button's value apply. -/
theorem debounceStep : Obligations.DebounceStep := by
  intro s hlegal
  refine ⟨s.succ, step_of_legal hlegal, succ_dbCount_toNat_mod s, succ_dbReg_of_wait, fun hsample hbutton => ?_,
    fun hsample hbutton => ?_⟩
  · rw [succ_dbReg_of_sample hsample, hbutton]
    exact dbNext_true_rows s.dbReg
  · rw [succ_dbReg_of_sample hsample, hbutton]
    exact dbNext_false_rows s.dbReg

/-- Settles O37: the counter, the register and the button on a sample tick are all that the debouncer's step reads. -/
theorem debouncerIndependent : Obligations.DebouncerIndependent := by
  intro s u t v hcount hreg hbutton hstep hstep'
  obtain ⟨-, rfl⟩ := step_eq_next hstep
  obtain ⟨-, rfl⟩ := step_eq_next hstep'
  refine ⟨by rw [succ_dbCount, succ_dbCount, hcount], ?_⟩
  by_cases hsample : s.dbCount.toNat % 128 = 127
  · rw [succ_dbReg_of_sample hsample, succ_dbReg_of_sample (hcount ▸ hsample), hreg, hbutton (dbSample_iff.mpr hsample)]
  · rw [succ_dbReg_of_wait hsample, succ_dbReg_of_wait (hcount ▸ hsample), hreg]

/-! ## Samples of a steady button -/

/-- A run of `k` ticks ends on the tick whose input word was `k` ticks ahead. -/
theorem inputWord_of_runTicks (hrun : runTicks k s = .next t) : t.inputWord = s.inputAfter k := by
  induction k generalizing s with
  | zero => cases hrun; exact inputWord_eq_inputAfter _
  | succ k ih =>
    obtain ⟨u, hu, hrest⟩ := andThen_eq_next (o := step s) hrun
    obtain ⟨-, rfl⟩ := step_eq_next hu
    rw [ih hrest, succ_inputAfter]

theorem buttonIn_of_runTicks (hrun : runTicks k s = .next t) : t.buttonIn = s.buttonAfter k := by
  rw [State.buttonIn, State.buttonAfter, inputWord_of_runTicks hrun]

/-- The register after `n` samples of the value `b`. -/
def afterSamples (b : Bool) (r : BitVec 3) (n : Nat) : BitVec 3 := (fun r => dbNext r b)^[n] r

theorem afterSamples_succ (b : Bool) (r : BitVec 3) (n : Nat) : afterSamples b r (n + 1) = dbNext (afterSamples b r n) b :=
  Function.iterate_succ_apply' _ n r

/-- From a register at rest at one value, bit 2 takes the other value with the fourth sample (42_button_debouncer.md R115). -/
theorem afterSamples_bit_two (b : Bool) {n : Nat} (hn : n ≤ 4) :
    (afterSamples b (if b then 0b000 else 0b111) n).getLsbD 2 = if n = 4 then b else !b := by
  cases b <;> interval_cases n <;> rfl

/-- From a sample tick on, `k` ticks of a steady button make ceil(k / 128) samples (42_button_debouncer.md R116). -/
theorem exists_runTicks_samples {b : Bool} (hlegal : s.Legal) (hsample : s.dbCount.toNat % 128 = 127)
    (hbutton : ∀ j, j < k → s.buttonAfter j = b) :
    ∃ t, runTicks k s = .next t ∧ t.Legal ∧ t.dbCount.toNat % 128 = (127 + k) % 128 ∧
      t.dbReg = afterSamples b s.dbReg ((k + 127) / 128) := by
  induction k with
  | zero => exact ⟨s, runTicks_zero s, hlegal, hsample, rfl⟩
  | succ k ih =>
    obtain ⟨t, hrun, hlegal', hcount, hreg⟩ := ih fun j hj => hbutton j (by omega)
    have hnow : t.buttonIn = b := (buttonIn_of_runTicks hrun).trans (hbutton k (by omega))
    refine ⟨t.succ, (runTicks_succ_last hrun).trans (step_of_legal hlegal'), succ_legal hlegal', ?_, ?_⟩
    · rw [succ_dbCount_toNat_mod]
      omega
    · by_cases htick : t.dbCount.toNat % 128 = 127
      · have hnext : (k + 1 + 127) / 128 = (k + 127) / 128 + 1 := by omega
        rw [succ_dbReg_of_sample htick, hnow, hreg, hnext, afterSamples_succ]
      · have hsame : (k + 1 + 127) / 128 = (k + 127) / 128 := by omega
        rw [succ_dbReg_of_wait htick, hreg, hsame]

/-- Settles O36: the fourth sample is taken on tick 384, so its result shows on tick 385. -/
theorem fourSamplesFlipTheOutput : Obligations.FourSamplesFlipTheOutput := by
  intro s b hlegal hsample hreg hbutton k hk
  obtain ⟨t, hrun, -, -, hreg'⟩ := exists_runTicks_samples (k := k) hlegal hsample fun j hj => hbutton j (by omega)
  have hfourth : (k + 127) / 128 = 4 ↔ k = 385 := by omega
  refine ⟨t, hrun, ?_⟩
  rw [State.dbOut, hreg', hreg, afterSamples_bit_two b (by omega)]
  exact if_congr hfourth rfl rfl

end Sys2Proof.Machine
end

section
/-! PROOFS. The continuous frame period (44_controller.md R147): with the button at rest nothing but the Timebase moves the block,
and each boundary takes it from one symbol of the frame to the next. -/

namespace Sys2Proof.Machine

variable {s t : State} {m d k : Nat}

/-! ## CONTINUOUS mode with the button at rest -/

/-- A CONTINUOUS block that no button disturbs: the encoder enabled, no switch requested, the debounced value low. -/
structure State.Steady (s : State) : Prop where
  legal : s.Legal
  mode : s.mode = .continuous
  modePending : s.modePending = false
  encEn : s.encEn = true
  encStopPend : s.encStopPend = false
  dbReg : s.dbReg = 0
  btnPrev : s.btnPrev = false

/-- A low sample keeps the register at 0, so no edge and no request comes from the button. -/
theorem State.Steady.next (h : s.Steady) (hbutton : s.buttonIn = false) : s.succ.Steady := by
  obtain ⟨hmode, hpending⟩ := succ_mode_of_no_request (switchReq_eq_false (btnFall_eq_false_of_btnPrev h.btnPrev) h.modePending)
  have hreg : s.succ.dbReg = 0 := by
    rw [succ_dbReg, hbutton, h.dbReg]
    exact ite_self 0
  exact ⟨succ_legal h.legal, hmode.trans h.mode, hpending.trans h.modePending,
    succ_encEn_of_enCond (enCond_of_continuous h.mode), succ_encStopPend_eq_false h.encStopPend, hreg,
    (succ_btnPrev s).trans (dbOut_eq_false_of_dbReg h.dbReg)⟩

/-! ## The nineteen symbols -/

/-- The block is in symbol `m` of the frame period: the rest of the idle symbol, the start symbol, data symbol `i` with its
payload bit latched and `i + 1` bits counted, or the stop symbol. -/
inductive State.InSymbol (s : State) : Nat → Prop
  | wait (hctl : s.ctlState = .transmit) (hstate : s.encState = .waitStart) (hcounter : s.bitCounter = 0) : s.InSymbol 0
  | start (hctl : s.ctlState = .transmit) (hstate : s.encState = .startBit) (hcounter : s.bitCounter = 0) : s.InSymbol 1
  | data (i : Nat) (hi : i < 16) (hctl : s.ctlState = .transmit) (hstate : s.encState = .bitEncode)
      (hcounter : s.bitCounter.toNat = i + 1) (hbit : s.encBit = Config.payload.getLsbD i) : s.InSymbol (i + 2)
  | stop (hctl : s.ctlState = .stop) (hstate : s.encState = .stopBit) (hcounter : s.bitCounter = 0) : s.InSymbol 18

theorem State.InSymbol.running (h : s.InSymbol m) : s.running = true := by
  cases h with
  | wait hctl | start hctl | data _ _ hctl => exact running_iff.mpr (.inl hctl)
  | stop hctl => exact running_iff.mpr (.inr hctl)

/-- Inside a symbol neither machine moves. -/
theorem State.InSymbol.next_inside (h : s.InSymbol m) (hinside : s.tbCC = false) : s.succ.InSymbol m := by
  have hpulse : s.encCC = false := Bool.eq_false_iff.mpr fun hpulse => by simp [tbCC_of_encCC hpulse] at hinside
  obtain ⟨hctl', hcounter'⟩ := succ_controller_of_no_pulse h.running hpulse
  have hbit' := succ_encBit_of_inside hinside
  have hstate' : s.encState ≠ .idle → s.succ.encState = s.encState := fun hstate =>
    (succ_encState_of_inside hinside).resolve_right fun ⟨hidle, _⟩ => hstate hidle
  cases h with
  | wait hctl hstate hcounter =>
    exact .wait (hctl'.trans hctl) ((hstate' (by simp [hstate])).trans hstate) (hcounter'.trans hcounter)
  | start hctl hstate hcounter =>
    exact .start (hctl'.trans hctl) ((hstate' (by simp [hstate])).trans hstate) (hcounter'.trans hcounter)
  | data i hi hctl hstate hcounter hbit =>
    exact .data i hi (hctl'.trans hctl) ((hstate' (by simp [hstate])).trans hstate) (hcounter' ▸ hcounter) (hbit'.trans hbit)
  | stop hctl hstate hcounter =>
    exact .stop (hctl'.trans hctl) ((hstate' (by simp [hstate])).trans hstate) (hcounter'.trans hcounter)

/-- A boundary of a sending encoder is a cycle pulse (41_manchester_encoder.md R82). -/
theorem encCC_of_boundary (hen : s.encEn = true) (hboundary : s.tbCC = true) (hstate : s.encState ≠ .idle)
    (hstate' : s.encState ≠ .waitStart) : s.encCC = true :=
  encCC_iff.mpr ⟨hen, hboundary, hstate, hstate'⟩

/-- A boundary before the last ends the symbol and starts the next. -/
theorem State.InSymbol.next_boundary (h : s.InSymbol m) (hsteady : s.Steady) (hboundary : s.tbCC = true) (hm : m < 18) :
    s.succ.InSymbol (m + 1) := by
  have hen := hsteady.encEn
  cases h with
  | wait hctl hstate hcounter =>
    have hpulse : s.encCC = false := Bool.eq_false_iff.mpr fun hpulse => by
      obtain ⟨-, -, -, hnotWait⟩ := encCC_iff.mp hpulse
      exact hnotWait hstate
    obtain ⟨hctl', hcounter'⟩ := succ_controller_of_no_pulse (running_iff.mpr (.inl hctl)) hpulse
    have hstate' : s.succ.encState = .startBit := by
      rw [succ_encState_of_enabled hen, nextEncState_of_waitStart hstate, if_pos hboundary]
    exact .start (hctl'.trans hctl) hstate' (hcounter'.trans hcounter)
  | start hctl hstate hcounter =>
    have hpulse := encCC_of_boundary hen hboundary (by simp [hstate]) (by simp [hstate])
    have hindex : s.bitCounter.toNat = 0 := by rw [hcounter]; rfl
    obtain ⟨hstate', hbit', hcounter', hctl'⟩ :=
      succ_of_data_pulse hctl hpulse (.inl hstate) hsteady.encStopPend (by omega)
    rw [hindex] at hbit' hcounter'
    exact .data 0 (by omega) hctl' hstate' hcounter' hbit'
  | data i hi hctl hstate hcounter hbit =>
    have hpulse := encCC_of_boundary hen hboundary (by simp [hstate]) (by simp [hstate])
    by_cases hlast : i = 15
    · obtain ⟨hstate', hctl', hcounter'⟩ := succ_of_last_pulse hctl hpulse hstate (by bv_omega)
      subst hlast
      exact .stop hctl' hstate' hcounter'
    · obtain ⟨hstate', hbit', hcounter', hctl'⟩ :=
        succ_of_data_pulse hctl hpulse (.inr hstate) hsteady.encStopPend (by omega)
      rw [hcounter] at hbit' hcounter'
      exact .data (i + 1) (by omega) hctl' hstate' hcounter' hbit'
  | stop => exact absurd hm (Nat.lt_irrefl 18)

/-! ## The ticks of the period -/

/-- `s` is the tick of offset `d` in symbol `m` of a continuous frame period; it is the `d + 1`-st tick since the boundary, and
the delayed clock is that of a symbol. -/
structure State.FrameTick (m d : Nat) (s : State) : Prop where
  steady : s.Steady
  symbol : s.InSymbol m
  position : s.SymbolTick (d + 1) s

/-- An enabled encoder has the delayed clock of its place in the symbol one tick after any tick inside it. -/
theorem succ_symbolTick_self (hlegal : s.Legal) (hen : s.encEn = true) (hposition : s.sinceBoundary = d)
    (hd : d < 2 * s.halfBit) : s.succ.SymbolTick (d + 1) s.succ where
  legal := succ_legal hlegal
  halfBit := rfl
  position := by
    have hinside : s.tbCC = false := Bool.eq_false_iff.mpr (mt (tbCC_iff_sinceBoundary hlegal).mp (by omega))
    rw [succ_sinceBoundary_of_inside hlegal hinside, hposition]
  clkDly := by
    rw [succ_encClkDly hen, tbClk_eq_decide_sinceBoundary hlegal, hposition, Nat.add_sub_cancel, succ_halfBit, symbolLevel]
    simp
  dataBit := rfl
  encState := .inl rfl

theorem State.FrameTick.next_inside (h : s.FrameTick m d) (hbutton : s.buttonIn = false) (hd : d + 1 < 2 * s.halfBit) :
    s.succ.FrameTick m (d + 1) where
  steady := h.steady.next hbutton
  symbol := h.symbol.next_inside (h.position.tbCC_eq_false hd)
  position := succ_symbolTick_self h.steady.legal h.steady.encEn h.position.position hd

theorem State.FrameTick.tbCC (h : s.FrameTick m d) (hd : d + 1 = 2 * s.halfBit) : s.tbCC = true :=
  (tbCC_iff_sinceBoundary h.steady.legal).mpr (h.position.position.trans hd)

theorem State.FrameTick.next_boundary (h : s.FrameTick m d) (hbutton : s.buttonIn = false) (hd : d + 1 = 2 * s.halfBit)
    (hm : m < 18) : s.succ.FrameTick (m + 1) 0 where
  steady := h.steady.next hbutton
  symbol := h.symbol.next_boundary h.steady (h.tbCC hd) hm
  position := succ_symbolTick_one h.steady.legal (h.tbCC hd) h.steady.encEn

/-- The line shows the symbol's row of R91's table (41_manchester_encoder.md R91). -/
theorem State.FrameTick.swoOut (h : s.FrameTick m d) : s.swoOut =
    if m = 0 then false
    else if m = 1 then symbolLevel s.halfBit d true
    else if m ≤ 17 then symbolLevel s.halfBit d (Config.payload.getLsbD (m - 2))
    else false := by
  cases h.symbol with
  | wait _ hstate => exact (h.position.waiting (.inr hstate)).2
  | start _ hstate => exact (h.position.startBit hstate).2
  | data i hi _ hstate _ hbit =>
    obtain ⟨-, -, hlevel⟩ := h.position.bitEncode hstate
    rw [hlevel, hbit, if_neg (by omega), if_neg (by omega), if_pos (by omega)]
    rfl
  | stop _ hstate => exact (h.position.stopBit hstate).2

/-! ## The ends of the period -/

theorem State.InSymbol.last (h : s.InSymbol 18) : s.ctlState = .stop ∧ s.encState = .stopBit ∧ s.bitCounter = 0 := by
  generalize hm : 18 = m at h
  cases h with
  | wait | start => contradiction
  | data i hi => omega
  | stop hctl hstate hcounter => exact ⟨hctl, hstate, hcounter⟩

/-- The boundary that ends the stop symbol makes the first tick of the next period. -/
theorem State.FrameTick.next_frameStart (h : s.FrameTick 18 d) (hbutton : s.buttonIn = false)
    (hd : d + 1 = 2 * s.halfBit) : s.succ.FrameStart := by
  obtain ⟨hctl, hstate, hcounter⟩ := h.symbol.last
  have hboundary := h.tbCC hd
  have hpulse := encCC_of_boundary h.steady.encEn hboundary (by simp [hstate]) (by simp [hstate])
  obtain ⟨hctl', hstate', hen'⟩ := succ_of_stop_pulse hctl hstate hpulse
  obtain ⟨hcounter', -⟩ := succ_controller_of_stop hctl
  obtain ⟨hwrap, hlow⟩ := tbCC_iff.mp hboundary
  obtain ⟨hcount, hclk⟩ := succ_timebase_of_wrap hwrap
  have hsteady := h.steady.next hbutton
  exact ⟨hsteady.legal, hsteady.mode, hsteady.modePending, hen', hctl', hstate', hcounter'.trans hcounter,
    hsteady.encStopPend, hcount, by rw [hclk, hlow]; rfl, hsteady.dbReg, hsteady.btnPrev⟩

theorem steady_of_frameStart (h : s.FrameStart) : s.Steady := by
  obtain ⟨hlegal, hmode, hpending, hen, -, -, -, hpend, -, -, hreg, hprev⟩ := h
  exact ⟨hlegal, hmode, hpending, hen, hpend, hreg, hprev⟩

/-- CONTINUOUS leaves IDLE at once: the second tick of the period is START, with the encoder still idle. -/
theorem succ_of_frameStart (h : s.FrameStart) :
    s.succ.ctlState = .start ∧ s.succ.encState = .idle ∧ s.succ.sinceBoundary = 2 := by
  obtain ⟨hlegal, hmode, -, hen, hctl, hstate, -, -, hcount, hclk, -, -⟩ := h
  have ⟨hN, _, _, _⟩ := hlegal
  have hperiod : 2 ≤ s.halfBit := hN
  have hfirst : s.sinceBoundary = 1 := by simp [State.sinceBoundary, hcount, hclk]
  refine ⟨(succ_ctlState_of_idle hctl).trans (if_pos (.inr hmode)), ?_,
    (succ_symbolTick_self hlegal hen hfirst (by omega)).position⟩
  rw [succ_encState_of_enabled hen, nextEncState_of_idle hstate, if_neg (by simp [hctl])]

/-- The third tick of the period is in TRANSMIT, the encoder waiting for the boundary. -/
theorem frameTick_of_frameStart (h : s.FrameStart) (hbutton : s.buttonIn = false) (hbutton' : s.succ.buttonIn = false) :
    s.succ.succ.FrameTick 0 2 := by
  have hsteady := (steady_of_frameStart h).next hbutton
  have ⟨hN, _, _, _⟩ := hsteady.legal
  have hperiod : 2 ≤ s.succ.halfBit := hN
  obtain ⟨hctl, hstate, hsecond⟩ := succ_of_frameStart h
  obtain ⟨hctl', hcounter'⟩ := succ_controller_of_start hctl
  have hstate' := succ_encState_of_encStart hsteady.encEn hstate (encStart_iff.mpr hctl)
  exact ⟨hsteady.next hbutton', .wait hctl' hstate' hcounter',
    succ_symbolTick_self hsteady.legal hsteady.encEn hsecond (by omega)⟩

/-! ## The run over the period -/

/-- From its third tick on, tick `k` of the period is tick `k % 2N` of symbol `k / 2N`. -/
theorem exists_runTicks_frameTick (h : s.FrameStart) (hbutton : ∀ j, j < 38 * s.halfBit → s.buttonAfter j = false)
    (hk : 2 ≤ k) (hk' : k < 38 * s.halfBit) :
    ∃ t, runTicks k s = .next t ∧ t.halfBit = s.halfBit ∧ t.FrameTick (k / (2 * s.halfBit)) (k % (2 * s.halfBit)) := by
  have ⟨hlegal, _⟩ := h
  have ⟨hN, _, _, _⟩ := hlegal
  have hperiod : 2 ≤ s.halfBit := hN
  induction k, hk using Nat.le_induction with
  | base =>
    have hnow : s.buttonIn = false := (buttonIn_eq_buttonAfter s).trans (hbutton 0 (by omega))
    have hnext : s.succ.buttonIn = false := by
      rw [buttonIn_eq_buttonAfter, succ_buttonAfter]
      exact hbutton 1 (by omega)
    refine ⟨s.succ.succ, ?_, rfl, ?_⟩
    · rw [runTicks_succ_of_legal hlegal, runTicks_succ_of_legal (succ_legal hlegal), runTicks_zero]
    · rw [Nat.div_eq_of_lt (by omega), Nat.mod_eq_of_lt (by omega)]
      exact frameTick_of_frameStart h hnow hnext
  | succ k _ ih =>
    obtain ⟨t, hrun, hhalf, htick⟩ := ih (by omega)
    have hnow : t.buttonIn = false := (buttonIn_of_runTicks hrun).trans (hbutton k (by omega))
    refine ⟨t.succ, (runTicks_succ_last hrun).trans (step_of_legal htick.steady.legal), hhalf, ?_⟩
    by_cases hwrap : k % (2 * s.halfBit) + 1 = 2 * s.halfBit
    · obtain ⟨hdiv, hmod⟩ := div_mod_succ_of_wrap hwrap
      have hsymbol : (k + 1) / (2 * s.halfBit) < 19 := (Nat.div_lt_iff_lt_mul (by omega)).mpr (by omega)
      rw [hdiv, hmod]
      exact htick.next_boundary hnow (by omega) (by omega)
    · have hbelow : k % (2 * s.halfBit) < 2 * s.halfBit := Nat.mod_lt k (by omega)
      obtain ⟨hdiv, hmod⟩ := div_mod_succ_of_count (m := k) (n := 2 * s.halfBit) (by omega)
      rw [hdiv, hmod]
      exact htick.next_inside hnow (by omega)

/-- The line over the period: low on the two ticks before the frame state machine waits, then symbol by symbol. -/
theorem exists_runTicks_frameLevel (h : s.FrameStart) (hbutton : ∀ j, j < 38 * s.halfBit → s.buttonAfter j = false)
    (hk : k < 38 * s.halfBit) : ∃ t, runTicks k s = .next t ∧ t.swoOut = frameLevel s.halfBit k := by
  have ⟨hlegal, _, _, _, _, hstate, _⟩ := h
  have ⟨hN, _, _, _⟩ := hlegal
  have hperiod : 2 ≤ s.halfBit := hN
  have hidleSymbol : k < 2 → frameLevel s.halfBit k = false := fun hfirst => by
    simp [frameLevel, Nat.div_eq_of_lt (show k < 2 * s.halfBit by omega)]
  match k with
  | 0 => exact ⟨s, runTicks_zero s, (encOut_eq_false_of_idle hstate).trans (hidleSymbol (by omega)).symm⟩
  | 1 =>
    obtain ⟨-, hstate', -⟩ := succ_of_frameStart h
    exact ⟨s.succ, runTicks_succ_of_legal hlegal 0, (encOut_eq_false_of_idle hstate').trans (hidleSymbol (by omega)).symm⟩
  | k + 2 =>
    obtain ⟨t, hrun, hhalf, htick⟩ := exists_runTicks_frameTick h hbutton (by omega) hk
    exact ⟨t, hrun, by rw [htick.swoOut, hhalf, frameLevel]⟩

/-- Settles O50: each tick is read off its symbol, and the boundary after the last tick of the stop symbol starts the next
period. -/
theorem continuousFramePeriod : Obligations.ContinuousFramePeriod := by
  intro s hstart hbutton
  have ⟨⟨hN, _⟩, _⟩ := hstart
  have hperiod : 2 ≤ s.halfBit := hN
  refine ⟨fun k => exists_runTicks_frameLevel hstart hbutton, ?_⟩
  obtain ⟨t, hrun, hhalf, htick⟩ :=
    exists_runTicks_frameTick (k := 38 * s.halfBit - 1) hstart hbutton (by omega) (by omega)
  obtain ⟨hdiv, hmod⟩ : (38 * s.halfBit - 1) / (2 * s.halfBit) = 18 ∧
      (38 * s.halfBit - 1) % (2 * s.halfBit) = 2 * s.halfBit - 1 :=
    (Nat.div_mod_unique (by omega)).mpr ⟨by omega, by omega⟩
  rw [hdiv, hmod] at htick
  have hnow : t.buttonIn = false := (buttonIn_of_runTicks hrun).trans (hbutton _ (by omega))
  have hlast : runTicks (38 * s.halfBit - 1 + 1) s = .next t.succ :=
    (runTicks_succ_last hrun).trans (step_of_legal htick.steady.legal)
  rw [Nat.sub_add_cancel (by omega)] at hlast
  exact ⟨t.succ, hlast, htick.next_frameStart hnow (by omega)⟩

end Sys2Proof.Machine
end

section
/-! PROOFS. Quiet from reset (70_reset_and_hazards.md R183): low inputs leave every register but the counters, the clock bits and the
enable flag at its reset value; and what leads out of TRIGGERED IDLE. -/

namespace Sys2Proof.Machine

variable {s t : State} {k : Nat}

/-! ## One quiet tick -/

/-- The registers that low inputs from reset leave at their reset values (70_reset_and_hazards.md R183). -/
structure State.Quiet (s : State) : Prop where
  encState : s.encState = .idle
  encBit : s.encBit = false
  encStopPend : s.encStopPend = false
  dbReg : s.dbReg = 0
  trgCount : s.trgCount = 0
  ctlState : s.ctlState = .idle
  bitCounter : s.bitCounter = 0
  mode : s.mode = .triggered
  modePending : s.modePending = false
  starting : s.starting = false
  btnPrev : s.btnPrev = false
  outPrev : s.outPrev = false

theorem resetAt_loadSchedule_quiet (c : Nat) (l : List InputRun) : ((State.resetAt c).loadSchedule l).Quiet := by
  constructor <;> rfl

theorem State.Quiet.outputs (h : s.Quiet) : s.outputs = ⟨false, false, false⟩ :=
  outputs_low (encOut_eq_false_of_idle h.encState) (running_eq_false_of_idle h.ctlState) h.mode

/-- ENC.IDLE without a start pulse leaves the encoder's state and data bit. -/
theorem succ_encoder_of_idle (hctl : s.ctlState = .idle) (hstate : s.encState = .idle) :
    s.succ.encState = .idle ∧ s.succ.encBit = s.encBit := by
  simp [State.succ, nextEncState_of_idle hstate, nextEncBit_of_holding (.inl hstate), hctl, hstate]

theorem buttonIn_eq_false_of_low (hlow : s.inputWord = 0b00) : s.buttonIn = false := by
  simp [State.buttonIn, hlow]

theorem triggerIn_eq_false_of_low (hlow : s.inputWord = 0b00) : s.triggerIn = false := by
  simp [State.triggerIn, hlow]

/-- No trigger and no request: each unit's quiet state is one that it holds. -/
theorem State.Quiet.next (h : s.Quiet) (hlow : s.inputWord = 0b00) : s.succ.Quiet := by
  have htrigger : s.trigger = false := trigger_eq_false_of_trgFall (trgFall_eq_false_of_trgCount h.trgCount)
  have hnotRunning := running_eq_false_of_idle h.ctlState
  obtain ⟨hstate, hbit⟩ := succ_encoder_of_idle h.ctlState h.encState
  obtain ⟨-, hcounter⟩ := succ_controller_of_idle h.ctlState
  obtain ⟨hmode, hpending⟩ := succ_mode_of_no_request (switchReq_eq_false (btnFall_eq_false_of_btnPrev h.btnPrev) h.modePending)
  have hctl : s.succ.ctlState = .idle := (succ_ctlState_of_idle h.ctlState).trans (if_neg (by simp [htrigger, h.mode]))
  have hreg : s.succ.dbReg = 0 := by
    rw [succ_dbReg, buttonIn_eq_false_of_low hlow, h.dbReg]
    exact ite_self 0
  have hlatch : s.succ.starting = s.starting :=
    succ_starting_of_hold (by simp [h.ctlState]) (by simp [hnotRunning])
  exact ⟨hstate, hbit.trans h.encBit, succ_encStopPend_eq_false h.encStopPend, hreg,
    succ_trgCount_of_low (triggerIn_eq_false_of_low hlow), hctl, hcounter.trans h.bitCounter, hmode.trans h.mode,
    hpending.trans h.modePending, hlatch.trans h.starting, (succ_btnPrev s).trans (dbOut_eq_false_of_dbReg h.dbReg),
    (succ_outPrev s).trans (encOut_eq_false_of_idle h.encState)⟩

/-! ## Quiet runs -/

/-- A tick of the quiet run, with the two registers that R183 lets move beside the counters: the enable flag and the delayed clock, which is
the clock of the tick before (log 14). -/
structure State.QuietTick (s : State) : Prop where
  legal : s.Legal
  phase : s.InPhase
  quiet : s.Quiet
  encEn : s.encEn = decide (1 ≤ s.tick)
  encClkDly : s.encClkDly = (((s.tick - 1) / s.halfBit) % 2 == 1)

theorem resetAt_loadSchedule_quietTick {c : Nat} (hN : Config.Legal c) {l : List InputRun} (hl : ∀ r ∈ l, 1 ≤ r.count) :
    ((State.resetAt c).loadSchedule l).QuietTick :=
  ⟨resetAt_loadSchedule_legal hN hl, resetAt_loadSchedule_inPhase c l, resetAt_loadSchedule_quiet c l, rfl,
    by simp [State.resetAt]⟩

/-- From tick 1 on the encoder is enabled and copies the clock; on tick 0 it is frozen, and the clock and its copy are both 0. -/
theorem State.QuietTick.succ_encClkDly (h : s.QuietTick) : s.succ.encClkDly = s.tbClk := by
  cases hen : s.encEn with
  | true => exact Machine.succ_encClkDly hen
  | false =>
    obtain ⟨-, hclk, -⟩ := h.phase
    have hzero : s.tick = 0 := by simpa [hen] using h.encEn
    have hdly : s.encClkDly = s.tbClk := by rw [h.encClkDly, hclk, hzero]
    simpa [State.succ, hen] using hdly

theorem State.QuietTick.next (h : s.QuietTick) (hlow : s.inputWord = 0b00) : s.succ.QuietTick where
  legal := succ_legal h.legal
  phase := succ_inPhase h.legal h.phase
  quiet := h.quiet.next hlow
  encEn := by
    rw [succ_encEn_of_enCond (enCond_of_idle h.quiet.ctlState), succ_tick]
    simp
  encClkDly := by
    obtain ⟨-, hclk, -⟩ := h.phase
    rw [h.succ_encClkDly, hclk, succ_tick, succ_halfBit, Nat.add_sub_cancel]

theorem exists_runTicks_quiet (h : s.QuietTick) (hlow : ∀ j, j < k → s.inputAfter j = 0b00) :
    ∃ t, runTicks k s = .next t ∧ t.QuietTick := by
  induction k with
  | zero => exact ⟨s, runTicks_zero s, h⟩
  | succ k ih =>
    obtain ⟨t, hrun, ht⟩ := ih fun j hj => hlow j (by omega)
    have hnow : t.inputWord = 0b00 := (inputWord_of_runTicks hrun).trans (hlow k k.lt_succ_self)
    exact ⟨t.succ, (runTicks_succ_last hrun).trans (step_of_legal ht.legal), ht.next hnow⟩

/-- The registers of a quiet tick, beside the reset state's (70_reset_and_hazards.md R180, R183). -/
theorem State.QuietTick.eq_reset (h : s.QuietTick) (c : Nat) :
    ({ s with clkHz := c, tick := 0, schedule := [] } : State) =
      { State.resetAt c with tbCount := s.tbCount, tbClk := s.tbClk, dbCount := s.dbCount, encClkDly := s.encClkDly,
                             encEn := decide (1 ≤ s.tick) } := by
  obtain ⟨-, -, hquiet, hen, -⟩ := h
  refine eq_of_sameRegisters ?_ rfl rfl rfl
  exact ⟨rfl, rfl, hquiet.encState, hquiet.encBit, rfl, hquiet.encStopPend, rfl, hquiet.dbReg, hquiet.trgCount,
    hquiet.ctlState, hquiet.bitCounter, hquiet.mode, hquiet.modePending, hen, hquiet.starting, hquiet.btnPrev, hquiet.outPrev⟩

/-- The reference clock on tick 10000: 192 half bits of 52 ticks and 16 more, and 39 rounds of 256 samples and 16 more. -/
theorem State.QuietTick.reference (h : s.QuietTick) (hN : s.halfBit = 52) (htick : s.tick = 10000) :
    s.tbCount = 16 ∧ s.tbClk = false ∧ s.dbCount = 16 ∧ s.encClkDly = false := by
  obtain ⟨hcount, hclk, hdb⟩ := h.phase
  have hdly := h.encClkDly
  rw [hN, htick] at hcount hclk hdly
  rw [htick] at hdb
  exact ⟨hcount, hclk, BitVec.eq_of_toNat_eq hdb, hdly⟩

/-! ## Out of TRIGGERED IDLE -/

theorem trigger_of_leaves_idle (hidle : s.ctlState = .idle) (hmode : s.mode = .triggered)
    (hleaves : s.succ.ctlState ≠ .idle) : s.trigger = true := by
  by_contra htrigger
  exact hleaves ((succ_ctlState_of_idle hidle).trans (if_neg (by simp [htrigger, hmode])))

theorem switchReq_of_leaves_triggered (hmode : s.mode = .triggered) (hleaves : s.succ.mode ≠ .triggered) :
    s.switchReq = true := by
  by_contra hrequest
  obtain ⟨hholds, -⟩ := succ_mode_of_no_request (Bool.eq_false_iff.mpr hrequest)
  exact hleaves (hholds.trans hmode)

/-- Settles O51: the quiet tick is an invariant of low inputs from reset; a trigger and a request are the two ways out. -/
theorem quietFromReset : Obligations.QuietFromReset := by
  refine ⟨?_, fun s t hstep hidle hmode => ?_⟩
  · rintro c l r s hN hl rfl rfl k hlow
    obtain ⟨t, hrun, ht⟩ := exists_runTicks_quiet (resetAt_loadSchedule_quietTick hN hl) hlow
    obtain ⟨hclk, htick⟩ := runTicks_clkHz_tick hrun
    have hhalf : t.halfBit = Config.halfBit c := congrArg Config.halfBit hclk
    obtain rfl : t.tick = k := htick.trans (Nat.zero_add k)
    refine ⟨t, hrun, ht.quiet.outputs, ht.eq_reset c, hhalf ▸ ht.encClkDly, fun hc htick => ht.reference ?_ htick⟩
    rw [hhalf, hc, Config.halfBit_eq_div]
  · obtain ⟨-, rfl⟩ := step_eq_next hstep
    exact ⟨trigger_of_leaves_idle hidle hmode,
      fun hleaves => switchReq_iff.mp (switchReq_of_leaves_triggered hmode hleaves)⟩

end Sys2Proof.Machine
end
